-- ==== Sys2Proof/Word.lean ====
section
/-! DEFINITION. Bytes, words and fixed banks of like things. -/

namespace Sys2Proof

/-- One byte of a cell, a message or a record image (R189, R194). -/
abbrev Byte := BitVec 8

/-- A two-byte field, big-endian on the trunk (R192). -/
abbrev Half := BitVec 16

/-- A four-byte field, big-endian on the trunk (R192). -/
abbrev Word := BitVec 32

/-- A fixed number of like things: the channels, the lines, the programs. -/
abbrev Bank (α : Type) (n : Nat) := Vector α n

/-- The item with a number. -/
def Bank.at (b : Bank α n) (i : Fin n) : α := b[i]

/-- The bank with one item changed. -/
def Bank.upd (b : Bank α n) (i : Fin n) (f : α → α) : Bank α n := b.set i (f b[i])

/-- The four programs A to D, coded 0 to 3. -/
abbrev ProgId := Fin 4

/-- The 24 device channels; channel number c is index c - 1. -/
abbrev ChanId := Fin 24

/-- The 32 contact lines; line number l is index l - 1. -/
abbrev LineId := Fin 32

/-- The 16 presenters; presenter number k is index k - 1. -/
abbrev PresId := Fin 16

/-- The 256 story records, numbered 0 to 255. -/
abbrev RecId := Fin 256

end Sys2Proof
end

