-- ==== Sys2Proof/Machine/Types.lean ====
section
/-! DEFINITION. The enumerated values of the G410, with the codes of R192 and R193, and the cell. -/

namespace Sys2Proof

/-- The six configured rates (R23). -/
inductive Rate
  | r25 | r30df | r30 | r50 | r60df | r60
deriving DecidableEq, Repr

def Rate.code : Rate → Nat
  | .r25 => 0 | .r30df => 1 | .r30 => 2 | .r50 => 3 | .r60df => 4 | .r60 => 5

def Rate.ofCode : Nat → Option Rate
  | 0 => some .r25 | 1 => some .r30df | 2 => some .r30 | 3 => some .r50 | 4 => some .r60df | 5 => some .r60
  | _ => none

/-- Result codes (R19, R192). -/
inductive ResultCode
  | done | doneTruncated | busy | notFound | full | range | malformed | sumMismatch
deriving DecidableEq, Repr

def ResultCode.code : ResultCode → Nat
  | .done => 0 | .doneTruncated => 1 | .busy => 2 | .notFound => 3 | .full => 4 | .range => 5
  | .malformed => 6 | .sumMismatch => 7

/-- Actions of an event or a command (R125); codes from 1. -/
inductive Action
  | load | roll | stop | takeIn | takeOut | select | openPath | closePath | clear
deriving DecidableEq, Repr

def Action.code : Action → Nat
  | .load => 1 | .roll => 2 | .stop => 3 | .takeIn => 4 | .takeOut => 5 | .select => 6 | .openPath => 7
  | .closePath => 8 | .clear => 9

def Action.ofCode : Nat → Option Action
  | 1 => some .load | 2 => some .roll | 3 => some .stop | 4 => some .takeIn | 5 => some .takeOut
  | 6 => some .select | 7 => some .openPath | 8 => some .closePath | 9 => some .clear
  | _ => none

/-- The on-actions of R125 and R162. -/
def Action.isOn : Action → Bool
  | .roll | .takeIn | .openPath | .select => true
  | .load | .stop | .takeOut | .closePath | .clear => false

/-- The off-actions of R125 and R162. -/
def Action.isOff : Action → Bool
  | .stop | .takeOut | .closePath | .clear => true
  | .load | .roll | .takeIn | .openPath | .select => false

/-- Anchors of an event (R43); codes from 1. -/
inductive Anchor
  | fromTake | fromEnd | onNext | manual
deriving DecidableEq, Repr

def Anchor.code : Anchor → Nat
  | .fromTake => 1 | .fromEnd => 2 | .onNext => 3 | .manual => 4

def Anchor.ofCode : Nat → Option Anchor
  | 1 => some .fromTake | 2 => some .fromEnd | 3 => some .onNext | 4 => some .manual
  | _ => none

/-- Channel kinds (R144). -/
inductive ChanKind
  | clip | graphic | audio | prompter | router | general
deriving DecidableEq, Repr

def ChanKind.code : ChanKind → Nat
  | .clip => 0 | .graphic => 1 | .audio => 2 | .prompter => 3 | .router => 4 | .general => 5

def ChanKind.ofCode : Nat → Option ChanKind
  | 0 => some .clip | 1 => some .graphic | 2 => some .audio | 3 => some .prompter | 4 => some .router
  | 5 => some .general
  | _ => none

/-- Device statuses (R148). -/
inductive DevStatus
  | idle | loading | ready | running | fault
deriving DecidableEq, Repr

def DevStatus.code : DevStatus → Nat
  | .idle => 0 | .loading => 1 | .ready => 2 | .running => 3 | .fault => 4

/-- A status code outside the five is recorded as FAULT (R148). -/
def DevStatus.ofCode : Nat → DevStatus
  | 0 => .idle | 1 => .loading | 2 => .ready | 3 => .running
  | _ => .fault

/-- Channel health (R149). -/
inductive Health
  | unconfigured | online | silent
deriving DecidableEq, Repr

def Health.code : Health → Nat
  | .unconfigured => 0 | .online => 1 | .silent => 2

/-- Standing of a current command (R159). -/
inductive Standing
  | awaiting | acked | noAck
deriving DecidableEq, Repr

def Standing.code : Standing → Nat
  | .awaiting => 0 | .acked => 1 | .noAck => 2

/-- Claim on a non-shareable channel (R144). -/
inductive Claim
  | free | held (p : ProgId) | releasing (p : ProgId)
deriving DecidableEq, Repr

def Claim.code : Claim → Nat
  | .free => 0 | .held _ => 1 | .releasing _ => 2

/-- The program a claim is HELD or RELEASING for. -/
def Claim.program : Claim → Option ProgId
  | .free => none | .held p => some p | .releasing p => some p

/-- Outcomes of an event row (R127). -/
inductive RowOutcome
  | waiting | posted | issued | acked | skipped | noClaim | queueFull | preempted | notReady | noAck | stale
deriving DecidableEq, Repr

def RowOutcome.code : RowOutcome → Nat
  | .waiting => 0 | .posted => 1 | .issued => 2 | .acked => 3 | .skipped => 4 | .noClaim => 5
  | .queueFull => 6 | .preempted => 7 | .notReady => 8 | .noAck => 9 | .stale => 10

/-- States of an entry (R63). -/
inductive EntryState
  | pending | next | onAir | done | dropped
deriving DecidableEq, Repr

def EntryState.code : EntryState → Nat
  | .pending => 0 | .next => 1 | .onAir => 2 | .done => 3 | .dropped => 4

/-- Program states (R85). -/
inductive ProgState
  | idle | running | held | parkPending | parked
deriving DecidableEq, Repr

def ProgState.code : ProgState → Nat
  | .idle => 0 | .running => 1 | .held => 2 | .parkPending => 3 | .parked => 4

/-- Program modes (R83, R103). -/
inductive Mode
  | live | rehearsal
deriving DecidableEq, Repr

def Mode.code : Mode → Nat
  | .live => 0 | .rehearsal => 1

def Mode.ofCode : Nat → Option Mode
  | 0 => some .live | 1 => some .rehearsal
  | _ => none

/-- End rules of a story (R42). -/
inductive EndRule
  | manual | autoTimed | autoChannel
deriving DecidableEq, Repr

def EndRule.ofCode : Nat → Option EndRule
  | 0 => some .manual | 1 => some .autoTimed | 2 => some .autoChannel
  | _ => none

/-- Record states (R40). -/
inductive RecState
  | free | opened | ready
deriving DecidableEq, Repr

def RecState.code : RecState → Nat
  | .free => 0 | .opened => 1 | .ready => 2

/-- Wrap stages (R120). -/
inductive WrapStage
  | none | steady | slow | fast
deriving DecidableEq, Repr

def WrapStage.code : WrapStage → Nat
  | .none => 0 | .steady => 1 | .slow => 2 | .fast => 3

/-- Lock state of the Trunk Port with the count each state keeps: the run count of SEEKING (R5) and the miss
count of FLYWHEEL (R7). -/
inductive Lock
  | seeking (run : Nat) | locked | flywheel (miss : Nat) | lost
deriving DecidableEq, Repr

def Lock.code : Lock → Nat
  | .seeking _ => 0 | .locked => 1 | .flywheel _ => 2 | .lost => 3

/-- Contact line functions with their parameters (R164). -/
inductive LineFn
  | unused | manualOut
  | tally (p : ProgId) (c : ChanId)
  | rehearsalTally (p : ProgId) (c : ChanId)
  | programOnAir (p : ProgId)
  | cue (k : PresId)
  | standby (k : PresId)
  | inputTake (p : ProgId)
  | inputHold (p : ProgId)
  | inputBreak (p : ProgId)
  | inputFire (p : ProgId) (event : Fin 16)
  | inputGeneral
deriving DecidableEq, Repr

def LineFn.code : LineFn → Nat
  | .unused => 0 | .manualOut => 1 | .tally _ _ => 2 | .rehearsalTally _ _ => 3 | .programOnAir _ => 4
  | .cue _ => 5 | .standby _ => 6 | .inputTake _ => 7 | .inputHold _ => 8 | .inputBreak _ => 9
  | .inputFire _ _ => 10 | .inputGeneral => 11

/-- First and second parameter of a function as SET_LINE carries them (R193), 0 where unused. -/
def LineFn.params : LineFn → Nat × Nat
  | .unused | .manualOut | .inputGeneral => (0, 0)
  | .tally p c | .rehearsalTally p c => (p.val, c.val + 1)
  | .programOnAir p | .inputTake p | .inputHold p | .inputBreak p => (p.val, 0)
  | .cue k | .standby k => (k.val + 1, 0)
  | .inputFire p e => (p.val, e.val)

/-- The functions of kind output (R164). -/
def LineFn.isOutput : LineFn → Bool
  | .manualOut | .tally _ _ | .rehearsalTally _ _ | .programOnAir _ | .cue _ | .standby _ => true
  | .unused | .inputTake _ | .inputHold _ | .inputBreak _ | .inputFire _ _ | .inputGeneral => false

/-- The functions of kind input (R164). -/
def LineFn.isInput : LineFn → Bool
  | .inputTake _ | .inputHold _ | .inputBreak _ | .inputFire _ _ | .inputGeneral => true
  | .unused | .manualOut | .tally _ _ | .rehearsalTally _ _ | .programOnAir _ | .cue _ | .standby _ => false

/-- The program of an action function (R177), none for any other function. -/
def LineFn.actionProgram : LineFn → Option ProgId
  | .inputTake p | .inputHold p | .inputBreak p | .inputFire p _ => some p
  | .unused | .manualOut | .tally _ _ | .rehearsalTally _ _ | .programOnAir _ | .cue _ | .standby _
  | .inputGeneral => none

/-- Polarity of a line (R164). -/
inductive Polarity
  | activeClosed | activeOpen
deriving DecidableEq, Repr

def Polarity.code : Polarity → Nat
  | .activeClosed => 0 | .activeOpen => 1

/-- Hold policy of a line (R164). -/
inductive HoldPolicy
  | keep | safe
deriving DecidableEq, Repr

def HoldPolicy.code : HoldPolicy → Nat
  | .keep => 0 | .safe => 1

/-- Trunk-loss state of the Line Bank (R174). -/
inductive TrunkLoss
  | normal | holding
deriving DecidableEq, Repr

def TrunkLoss.code : TrunkLoss → Nat
  | .normal => 0 | .holding => 1

/-- Presenter cue patterns (R170). -/
inductive Pattern
  | dark | lit | slow | fast
deriving DecidableEq, Repr

def Pattern.code : Pattern → Nat
  | .dark => 0 | .lit => 1 | .slow => 2 | .fast => 3

/-- The two event status tables of a program (R127). -/
inductive TableKind
  | onAir | next
deriving DecidableEq, Repr

def TableKind.ofCode : Nat → Option TableKind
  | 0 => some .onAir | 1 => some .next
  | _ => none

/-- The three text fields of a record (R44). -/
inductive TextField
  | slug | note | cueText
deriving DecidableEq, Repr

/-- The WRITE_STORY field code of a text field (R193). -/
def TextField.code : TextField → Nat
  | .slug => 11 | .note => 12 | .cueText => 13

/-- Notice kinds in the order of R181. -/
inductive NoticeKind
  | trunkLost | rateMismatch
  | noAck | notReady | channelSilent | lineFault
  | preempted | hardStartMissed | hardStartDrop | rundownEnd | breakInFailed
  | noClaim | queueFull | stale | skipped
  | intakeOverrun | fragmentDrop | fragmentTimeout | cellCheck
  | presenterConflict | timingSaturated | markerAdjusted | markerJump
deriving DecidableEq, Repr

/-- Code of a notice kind, from 1 in the order of R181 (R192). -/
def NoticeKind.code : NoticeKind → Nat
  | .trunkLost => 1 | .rateMismatch => 2
  | .noAck => 3 | .notReady => 4 | .channelSilent => 5 | .lineFault => 6
  | .preempted => 7 | .hardStartMissed => 8 | .hardStartDrop => 9 | .rundownEnd => 10 | .breakInFailed => 11
  | .noClaim => 12 | .queueFull => 13 | .stale => 14 | .skipped => 15
  | .intakeOverrun => 16 | .fragmentDrop => 17 | .fragmentTimeout => 18 | .cellCheck => 19
  | .presenterConflict => 20 | .timingSaturated => 21 | .markerAdjusted => 22 | .markerJump => 23

/-- Priority of a notice kind, 1 the most urgent (R181). -/
def NoticeKind.priority : NoticeKind → Nat
  | .trunkLost | .rateMismatch => 1
  | .noAck | .notReady | .channelSilent | .lineFault => 2
  | .preempted | .hardStartMissed | .hardStartDrop | .rundownEnd | .breakInFailed => 3
  | .noClaim | .queueFull | .stale | .skipped => 4
  | .intakeOverrun | .fragmentDrop | .fragmentTimeout | .cellCheck => 5
  | .presenterConflict | .timingSaturated | .markerAdjusted | .markerJump => 6

/-- A 32-byte cell of a trunk frame, every byte of R189: kind, destination, source, message tag, the fragment
byte (index and last-fragment flag), payload length, 24 payload bytes and the check. -/
structure Cell where
  kind     : Byte
  dest     : Byte
  source   : Byte
  tag      : Byte
  fragment : Byte
  length   : Byte
  payload  : Vector Byte 24
  check    : Half
deriving DecidableEq, Repr

/-- Who sent a command message: its source node and message tag (R15, R19). -/
structure Origin where
  source : Byte
  tag    : Byte
deriving DecidableEq, Repr

/-- The channel with a number, 1 to 24; 0 and numbers above 24 name none. -/
def chanOf (n : Nat) : Option ChanId :=
  if h : 0 < n ∧ n ≤ 24 then some ⟨n - 1, by omega⟩ else none

/-- The number of a channel, 1 to 24. -/
def chanNo (c : ChanId) : Nat := c.val + 1

/-- The line with a number, 1 to 32. -/
def lineOf (n : Nat) : Option LineId :=
  if h : 0 < n ∧ n ≤ 32 then some ⟨n - 1, by omega⟩ else none

/-- The number of a line, 1 to 32. -/
def lineNo (l : LineId) : Nat := l.val + 1

/-- The presenter with a number, 1 to 16. -/
def presOf (n : Nat) : Option PresId :=
  if h : 0 < n ∧ n ≤ 16 then some ⟨n - 1, by omega⟩ else none

/-- The number of a presenter, 1 to 16. -/
def presNo (k : PresId) : Nat := k.val + 1

/-- The program with a code, 0 to 3. -/
def progOf (n : Nat) : Option ProgId :=
  if h : n < 4 then some ⟨n, h⟩ else none

/-- Every program, A to D. -/
def allPrograms : List ProgId := List.finRange 4

/-- Every channel, 1 to 24. -/
def allChannels : List ChanId := List.finRange 24

/-- Every line, 1 to 32. -/
def allLines : List LineId := List.finRange 32

/-- Every presenter, 1 to 16. -/
def allPresenters : List PresId := List.finRange 16

/-- Every record, 0 to 255. -/
def allRecords : List RecId := List.finRange 256

end Sys2Proof
end

