-- ==== Sys2Proof/Syntax.lean ====
section
/-! DEFINITION. The commands of the block: one constructor per row of the opcode table.

Three kinds of row: what happens at a pin or on the trunk (the reset pin, the internal tick, an arriving marker
or cell); the commands a gallery controller sends, each as the message the Command Intake takes, with its
origin and its parameters as R193 sizes them; and the internal events the table lists as steps of their own
(a frame-start step of one block), each naming the program, channel, line, row or context it concerns. -/

namespace Sys2Proof

/-- One constructor per row of spec/opcode_table.json. `sensed` has bit l set when contact line l + 1 reads
closed at the frame start the event gives. -/
inductive Instr
  | resetPinAssert
  | resetPinRelease (straps : Fin 64)
  | internalTick (sensed : Word)
  | markerArrival (cell : Cell) (sensed : Word)
  | cellArrival (cell : Cell)
  | trunkLost
  | slotChangeTakesEffect
  | rateTakesEffect
  | fragmentTimeout (context : Fin 4)
  | unknownCommand (o : Origin) (payload : List Byte)
  | responseCellSend (cell : Cell)
  | resetNode (o : Origin)
  | setSlots (o : Origin) (status : Byte) (replies : List Byte)
  | setRate (o : Origin) (rate : Byte)
  | readStory (o : Origin) (record : Byte) (offset : Half) (length : Byte)
  | readList (o : Origin) (program start form : Byte)
  | readProgram (o : Origin) (program start : Byte)
  | readEvents (o : Origin) (program table start : Byte)
  | readChannel (o : Origin) (channel : Byte)
  | readLines (o : Origin) (start : Byte)
  | readPresenters (o : Origin)
  | readNotices (o : Origin) (start : Byte)
  | readNode (o : Origin)
  | ackNotice (o : Origin) (n : Byte)
  | openStory (o : Origin) (slug note : Byte) (cueText : Half)
  | openStoryCopyFrom (o : Origin) (slug note : Byte) (cueText : Half) (source : Byte)
  | writeStorySetting (o : Origin) (record field : Byte) (index : Half) (data : List Byte)
  | writeStoryEventSlot (o : Origin) (record : Byte) (index : Half) (data : List Byte)
  | writeStoryText (o : Origin) (record : Byte) (field : TextField) (index : Half) (data : List Byte)
  | closeStory (o : Origin) (record : Byte) (expected : Half)
  | freeStory (o : Origin) (record : Byte)
  | insertEntry (o : Origin) (program : Byte) (tag : Half) (record : Byte) (after : Half)
  | appendEntries (o : Origin) (program : Byte) (pairs : List (Half × Byte))
  | moveEntry (o : Origin) (program : Byte) (tag after : Half)
  | dropEntry (o : Origin) (program : Byte) (tag : Half)
  | restoreEntry (o : Origin) (program : Byte) (tag : Half)
  | relinkEntry (o : Origin) (program : Byte) (tag : Half) (record : Byte)
  | trimDone (o : Origin) (program : Byte)
  | clearRundown (o : Origin) (program : Byte)
  | setNext (o : Origin) (program : Byte) (tag : Half)
  | take (o : Origin) (program : Byte) (expected : Half)
  | hold (o : Origin) (program : Byte)
  | release (o : Origin) (program : Byte)
  | endShow (o : Origin) (program : Byte)
  | park (o : Origin) (program : Byte)
  | unpark (o : Origin) (program : Byte)
  | breakIn (o : Origin) (program given record takeNow : Byte)
  | setMode (o : Origin) (program mode : Byte)
  | setProgram (o : Origin) (program priority : Byte) (hardOut : Word) (w1 w2 : Half) (given record : Byte)
  | programSettingsTakeEffect (p : ProgId)
  | programReset (o : Origin) (program : Byte)
  | fire (o : Origin) (program index : Byte)
  | setPresenter (o : Origin) (presenter rate cue standby : Byte)
  | presenterSettingsTakeEffect
  | configureChannel (o : Origin) (channel kind slot node shareable ackWindow rollGrace staleLimit : Byte)
  | channelConfigurationTakesEffect (c : ChanId)
  | setLine (o : Origin) (line function first second polarity holdPolicy debounce : Byte)
  | lineConfigurationTakesEffect
  | driveLine (o : Origin) (line level : Byte)
  | armLine (o : Origin) (line : Byte)
  | disarmLine (o : Origin) (line : Byte)
  | automaticEnd (p : ProgId)
  | hardStartTake (p : ProgId)
  | hardStartMissed (p : ProgId) (tag : Half)
  | parked (p : ProgId)
  | eventDuePost (p : ProgId) (row : Fin 16)
  | rollPostedOnReady (p : ProgId) (table : TableKind) (row : Fin 16)
  | notReady (p : ProgId) (table : TableKind) (row : Fin 16)
  | claimPass (c : ChanId)
  | commandIssue (c : ChanId)
  | noAck (c : ChanId)
  | stale (c : ChanId)
  | channelSilent (c : ChanId)
  | lineFault (l : LineId)
  | acceptedLevelChange (l : LineId)
deriving DecidableEq, Repr

end Sys2Proof
end

