-- ==== Sys2Proof/Config.lean ====
section
/-! DEFINITION. What the spec leaves open: constants with no body. Nothing in Lean can evaluate them, so a
statement about the model holds whatever they are. Each is named in the assumption log. -/

namespace Sys2Proof

/-- The detail byte of a response whose rule states no detail (R19, R192), by command code and result code.
Assumption log 2. -/
opaque Config.unstatedDetail (code result : Nat) : Byte

/-- The code of an enumerated field for which the table of R192 lists no codes, by field and value: a sensed
or driven level, an active or inactive level, an arming, a trunk-loss state, a flash pattern, which line a naming is. Assumption log 3. -/
opaque Config.unstatedCode (field value : Nat) : Byte

/-- The byte shown for a flash count above 255, which does not fit its one-byte field (R188, R192).
Assumption log 4. -/
opaque Config.overflowByte (n : Nat) : Byte

/-- The stale limit of an UNCONFIGURED channel, which R144 gives none and yet lets its commands expire: a limit
in frames, or none for never. Assumption log 5. -/
opaque Config.unconfiguredStaleLimit : Option Nat

/-- A key per frame start and program: the runners work in rising order of it. Assumption log 6. -/
opaque Config.programKey (n p : Nat) : Nat

/-- Per frame start and channel: whether the channel's own work (steps 2 to 4 of R157) follows the runners' and Event
Firing's, or comes before it (R126, R158: "Either may come first"). Assumption log 6. -/
opaque Config.channelLate (n c : Nat) : Bool

/-- Per frame start and line: whether an accepted level's input action follows the runners' steps or comes
before them (R178). Assumption log 6. -/
opaque Config.lineLate (n l : Nat) : Bool

/-- A key per frame start and line: input actions accepted together are carried out in rising order of it
(R178: "in either order"). Assumption log 6. -/
opaque Config.lineKey (n l : Nat) : Nat

end Sys2Proof
end

