-- ==== Sys2Proof/Machine/State.lean ====
section
/-! DEFINITION. The state of the G410, block by block, as plain data, and its value after reset.

`Part` is everything the spec gives the block; `State` adds the queue of commands that wait. -/

namespace Sys2Proof.Machine

/-- Why a step can stop with a fault. No command of this block faults: the spec gives every command an effect or
a refusal response, so the type has no constructor (safe: a claim about faults is vacuous, none can be raised). -/
inductive Fault
deriving DecidableEq, Repr

/-- Why a command has no meaning. -/
inductive Refusal
  /-- Raised by an arm of exec whose row has no meaning yet, by mnemonic; no arm raises it now (safe). -/
  | notModelled (mnemonic : String)
deriving DecidableEq, Repr

/-- Bytes of a record image, as address and byte pairs in one canonical form: addresses strictly rising, no byte
equal to 0, which is what an unlisted address reads as (R40, R60: a FREE record is all zero). -/
abbrev Memory := List Host.Cell

/-! ### Trunk Port and Command Intake -/

/-- A status slot and a list of reply slots; slot 0 means no status slot (R12, R13). -/
structure SlotSet where
  status  : Nat
  replies : List Nat
deriving DecidableEq, Repr

/-- The Trunk Port with the pins that face the trunk (R1 to R14, R22). -/
structure Port where
  /-- the reset pin is asserted (R14) -/
  resetAsserted  : Bool
  /-- node number read from the straps; 0 and 63 make a pure repeater (R14) -/
  node           : Nat
  lock           : Lock
  /-- day frame of the last valid marker in the run (R5) -/
  runDay         : Nat
  /-- slot position 0 to 47, none for UNKNOWN (R1) -/
  position       : Option Nat
  /-- frame sequence of the last valid marker (R3) -/
  sequence       : Nat
  /-- the cells now arriving belong to a LOCKED frame (R6) -/
  lockedFrame    : Bool
  /-- the frame in progress has been a LOCKED frame -/
  frameWasLocked : Bool
  /-- the frame that ended at the last frame start was a LOCKED frame (R157) -/
  endedLocked    : Bool
  /-- the last frame start itself began a LOCKED frame, so commands may be issued (R158) -/
  beganLocked    : Bool
  /-- the frame count modulo 256 taken at the last frame start, the tag of status cells (R185) -/
  frameTag       : Nat
  slots          : SlotSet
  pendingSlots   : Option SlotSet
  /-- EMPTY slots used for responses in this frame (R20) -/
  emptyUsed      : Nat
  /-- the last cell written at Trunk Out -/
  trunkOut       : Option Cell
deriving DecidableEq, Repr

/-- A reassembly context that is ASSEMBLING (R15, R16). -/
structure Assembly where
  source  : Byte
  tag     : Byte
  next    : Nat
  payload : List Byte
  age     : Nat
deriving DecidableEq, Repr

/-- A completed command message (R17). -/
structure Message where
  origin  : Origin
  payload : List Byte
deriving DecidableEq, Repr

/-- A response message in the reply queue, with the number of its cells already written (R19, R20). -/
structure Response where
  dest    : Byte
  tag     : Byte
  payload : List Byte
  sent    : Nat
deriving DecidableEq, Repr

/-- The Command Intake (R15 to R20, R22). -/
structure Intake where
  contexts : Bank (Option Assembly) 4
  queue    : List Message
  pause    : Bool
  replies  : List Response
  /-- the command being carried out (R18, R22); none between steps -/
  carrying : Option Origin
deriving DecidableEq, Repr

/-! ### Frame Clock -/

/-- The Frame Clock (R23 to R27, R39). -/
structure Clock where
  rate        : Rate
  pendingRate : Option Rate
  day         : Nat
  prevDay     : Nat
  /-- frame count, modulo 2^32 -/
  frame       : Nat
  /-- the last frame start put a new rate into effect, so it reaches no time point (R27, R35) -/
  rateStart   : Bool
  /-- the rate whose frame period the internal tick has (R24) -/
  tickRate    : Rate
deriving DecidableEq, Repr

/-! ### Story Store -/

/-- A story record: the part-maintained fields (bytes 0 to 7) and the content bytes 8 to 767 (R40, R41, R194). -/
structure Record where
  state   : RecState
  version : Nat
  links   : Nat
  retire  : Bool
  words   : Nat
  sum     : Nat
  content : Memory
deriving DecidableEq, Repr

/-! ### Rundown Lists -/

/-- An entry of a running order (R62); its program is the list it stands in. -/
structure Entry where
  tag       : Nat
  record    : RecId
  state     : EntryState
  breaking  : Bool
  takeFrame : Option Nat
  actual    : Option Nat
  airings   : Nat
deriving DecidableEq, Repr

/-- One program's list and its take mark, held as the marked entry's tag (R76). -/
structure Rundown where
  entries : List Entry
  mark    : Option Nat
deriving DecidableEq, Repr

/-! ### Program Runners -/

/-- The five settings SET_PROGRAM sets (R83, R104). -/
structure Settings where
  priority : Nat
  hardOut  : Option Nat
  w1       : Nat
  w2       : Nat
  breakIn  : Option RecId
deriving DecidableEq, Repr

/-- A program record (R83). -/
structure Runner where
  state      : ProgState
  mode       : Mode
  settings   : Settings
  pending    : Option Settings
  pinned     : Bool
  held       : Option Nat
  correction : Nat
  runSeen    : Bool
  givenUp    : Bool
  showStart  : Option Nat
deriving DecidableEq, Repr

/-! ### Event Firing -/

/-- A row of an event status table (R127). -/
structure Row where
  anchor  : Anchor
  channel : ChanId
  action  : Action
  param   : Nat
  offset  : Nat
  asset   : Nat
  due     : Option Nat
  outcome : RowOutcome
  held    : Option Nat
  /-- frame count of the frame in which the hold for READY began, 0 before any: its count begins at the next frame
  start (R137) -/
  heldAt  : Nat
  posting : Option Nat
deriving DecidableEq, Repr

/-- An event status table: its entry's tag (0 when empty), the prompter story id of that entry's story, and its
rows (R127). -/
structure Table where
  tag      : Nat
  prompter : Nat
  rows     : List Row
deriving DecidableEq, Repr

/-- An echoed command; `issued` is its stage (R139). -/
structure EchoCmd where
  channel : ChanId
  action  : Action
  posting : Option Nat
  issued  : Bool
deriving DecidableEq, Repr

/-- What Event Firing holds for one program: two tables, the rehearsal echo and the posting number (R126, R127,
R139). -/
structure Firing where
  next    : Table
  onAir   : Table
  echo    : List EchoCmd
  echoOn  : Bank Bool 24
  posting : Nat
deriving DecidableEq, Repr

/-! ### Timing Unit -/

/-- A pending row of the timing results (R112). -/
structure PendingRow where
  tag   : Nat
  p     : Nat
  front : Nat
  back  : Option Nat
deriving DecidableEq, Repr

/-- A program's timing results (R112, R122). -/
structure Timing where
  p         : Option Nat
  rem       : Option Int
  rows      : List PendingRow
  e         : Nat
  oShow     : Option Int
  oNext     : Option (Int × Nat)
  w1        : Nat
  w2        : Nat
  stage     : WrapStage
  saturated : Bool
  /-- frame count of the frame start the results belong to -/
  frame     : Nat
deriving DecidableEq, Repr

/-- A presenter's read rate and lamp lines; line 0 means none (R107). -/
structure PresSettings where
  readRate : Nat
  cue      : Nat
  standby  : Nat
deriving DecidableEq, Repr

/-- A presenter: settings in effect and pending (R107), the flash phase (R171) and whether the presenter had a
conflict at the last frame start (R170). -/
structure Presenter where
  settings : PresSettings
  pending  : Option PresSettings
  pattern  : Pattern
  count    : Nat
  conflict : Bool
deriving DecidableEq, Repr

/-! ### Channel Table -/

/-- A channel configuration; slot 0 means none (R144). -/
structure ChanConfig where
  kind       : ChanKind
  slot       : Nat
  node       : Nat
  shareable  : Bool
  ackWindow  : Nat
  rollGrace  : Nat
  staleLimit : Nat
deriving DecidableEq, Repr

/-- A device report (R148). -/
structure Report where
  acked     : Nat
  status    : DevStatus
  remaining : Option Nat
  fault     : Nat
deriving DecidableEq, Repr

/-- A queued command (R156). -/
structure QCommand where
  program : ProgId
  action  : Action
  param   : Nat
  asset   : Nat
  posting : Option Nat
  tag     : Nat
  frame   : Nat
deriving DecidableEq, Repr

/-- A channel's current command (R144, R158, R159, R162). -/
structure Current where
  serial     : Nat
  program    : Option ProgId
  action     : Action
  param      : Nat
  asset      : Nat
  posting    : Option Nat
  tag        : Nat
  /-- frame count of its issue; absent for the rest command -/
  issueFrame : Option Nat
  standing   : Standing
  /-- it is the release CLEAR of a claim (R153) -/
  isRelease  : Bool
  /-- its trigger cell has been written (R161) -/
  carried    : Bool
  /-- it set its program's on-state when first carried (R162) -/
  setOn      : Bool
  /-- PROGRAM_RESET has discarded its outcome and its on-state (R105) -/
  voided     : Bool
deriving DecidableEq, Repr

/-- A device channel (R144). -/
structure Channel where
  config    : Option ChanConfig
  pending   : Option ChanConfig
  /-- slot kept in the owned-slot map by RESET_NODE while UNCONFIGURED, 0 for none (R163) -/
  keptSlot  : Nat
  /-- slot of a pending configuration whose rest RESET_NODE discarded (R163) -/
  keptNext  : Option Nat
  health    : Health
  silence   : Nat
  /-- the frame in progress has brought a matched reply (R149) -/
  replied   : Bool
  report    : Option Report
  claim     : Claim
  waiting   : List (ProgId × Nat)
  returnReq : Option Nat
  queue     : List QCommand
  release   : Option QCommand
  current   : Current
  ackCount  : Nat
  onStates  : Bank Bool 4
deriving DecidableEq, Repr

/-! ### Line Bank -/

/-- A line configuration (R164). -/
structure LineConfig where
  fn       : LineFn
  polarity : Polarity
  policy   : HoldPolicy
  debounce : Nat
deriving DecidableEq, Repr

/-- A contact line (R164). Levels: true is active, or closed. -/
structure Line where
  config    : LineConfig
  pending   : Option LineConfig
  /-- the presenter that names the line, and whether as its cue line -/
  naming    : Option (PresId × Bool)
  manual    : Bool
  requested : Option Bool
  output    : Option Bool
  driven    : Option Bool
  sensed    : Bool
  mismatch  : Nat
  fault     : Bool
  accepted  : Bool
  change    : Option (Bool × Nat)
  armed     : Bool
deriving DecidableEq, Repr

/-! ### Notice Queue -/

/-- The optional fields of a notice (R180); channel, line and source node by number. -/
structure Subject where
  program : Option ProgId := none
  tag     : Option Nat := none
  channel : Option Nat := none
  line    : Option Nat := none
  source  : Option Nat := none
deriving DecidableEq, Repr

/-- A notice (R180); its priority is its kind's. -/
structure Notice where
  kind    : NoticeKind
  subject : Subject
  first   : Nat
  count   : Nat
deriving DecidableEq, Repr

/-! ### The part and the state -/

/-- The whole G410, block by block. -/
structure Part where
  port        : Port
  intake      : Intake
  clock       : Clock
  store       : Bank Record 256
  rundowns    : Bank Rundown 4
  runners     : Bank Runner 4
  firings     : Bank Firing 4
  /-- the airing set of each program (R150); in REHEARSAL, the channels its echo CLEARs answer for (R140) -/
  airing      : Bank (List ChanId) 4
  timings     : Bank Timing 4
  presenters  : Bank Presenter 16
  channels    : Bank Channel 24
  lines       : Bank Line 32
  trunkLoss   : TrunkLoss
  notices     : List Notice
  noticesLost : Bool
  /-- the model's own counter: the frame starts whose open orders have been drawn (assumption log 6) -/
  draws       : Nat
deriving DecidableEq, Repr

/-- The state of the machine: the part, and the commands that wait, first in, first out. -/
structure State extends Part where
  pending : List Instr
deriving DecidableEq, Repr

/-! ### Reset values -/

/-- A FREE record: every byte zero (R40, R60). -/
def Record.free : Record :=
  { state := .free, version := 0, links := 0, retire := false, words := 0, sum := 0, content := [] }

/-- An empty list (R82). -/
def Rundown.empty : Rundown := { entries := [], mark := none }

/-- A program's settings after reset (R106). -/
def Settings.reset : Settings := { priority := 0, hardOut := none, w1 := 30, w2 := 10, breakIn := none }

/-- A program record after reset (R106). -/
def Runner.reset : Runner :=
  { state := .idle, mode := .live, settings := Settings.reset, pending := none, pinned := false, held := none,
    correction := 0, runSeen := false, givenUp := false, showStart := none }

/-- An empty event status table (R143). -/
def Table.empty : Table := { tag := 0, prompter := 0, rows := [] }

/-- A program's Event Firing state after reset (R143). -/
def Firing.reset : Firing :=
  { next := Table.empty, onAir := Table.empty, echo := [], echoOn := Vector.replicate 24 false, posting := 0 }

/-- Empty timing results with thresholds in frames (R123). -/
def Timing.reset (w1 w2 : Nat) : Timing :=
  { p := none, rem := none, rows := [], e := 0, oShow := none, oNext := none, w1 := w1, w2 := w2, stage := .none,
    saturated := false, frame := 0 }

/-- A presenter after reset (R108, R179). -/
def Presenter.reset : Presenter :=
  { settings := { readRate := 24, cue := 0, standby := 0 }, pending := none, pattern := .dark, count := 0,
    conflict := false }

/-- The rest command (R146, R190). -/
def Current.rest : Current :=
  { serial := 0, program := none, action := .clear, param := 0, asset := 0, posting := none, tag := 0,
    issueFrame := none, standing := .acked, isRelease := false, carried := false, setOn := false, voided := false }

/-- A channel after reset (R163). -/
def Channel.reset : Channel :=
  { config := none, pending := none, keptSlot := 0, keptNext := none, health := .unconfigured, silence := 0,
    replied := false, report := none, claim := .free, waiting := [], returnReq := none, queue := [],
    release := none, current := Current.rest, ackCount := 0, onStates := Vector.replicate 4 false }

/-- A line after reset, with the sensed level it keeps (R179). -/
def Line.reset (sensed : Bool) : Line :=
  { config := { fn := .unused, polarity := .activeClosed, policy := .safe, debounce := 2 }, pending := none,
    naming := none, manual := false, requested := none, output := none, driven := none, sensed := sensed,
    mismatch := 0, fault := false, accepted := false, change := none, armed := false }

/-- The Trunk Port after release of the reset pin, with the straps read (R14, R22). -/
def Port.reset (straps : Nat) : Port :=
  { resetAsserted := false, node := straps, lock := .seeking 0, runDay := 0, position := none, sequence := 0,
    lockedFrame := false, frameWasLocked := false, endedLocked := false, beganLocked := false, frameTag := 0,
    slots := { status := 0, replies := [] }, pendingSlots := none, emptyUsed := 0, trunkOut := none }

/-- The Command Intake after reset (R22). -/
def Intake.reset : Intake :=
  { contexts := Vector.replicate 4 none, queue := [], pause := false, replies := [], carrying := none }

/-- The Frame Clock after release of the reset pin (R39). -/
def Clock.reset : Clock :=
  { rate := .r25, pendingRate := none, day := 0, prevDay := 0, frame := 0, rateStart := false, tickRate := .r25 }

/-- The part after release of the reset pin with the given strap pins (R22, R39, R60, R82, R106, R108, R123, R143,
R163, R179, R183). -/
def Part.reset (straps : Nat) : Part :=
  { port := Port.reset straps, intake := Intake.reset, clock := Clock.reset,
    store := Vector.replicate 256 Record.free, rundowns := Vector.replicate 4 Rundown.empty,
    runners := Vector.replicate 4 Runner.reset, firings := Vector.replicate 4 Firing.reset,
    airing := Vector.replicate 4 [], timings := Vector.replicate 4 (Timing.reset 750 250),
    presenters := Vector.replicate 16 Presenter.reset, channels := Vector.replicate 24 Channel.reset,
    lines := Vector.replicate 32 (Line.reset false), trunkLoss := .normal, notices := [], noticesLost := false,
    draws := 0 }

/-- The machine right after release of the reset pin, no command waiting. The strap pins read 5, the node number
of R2's example (DESIGN CHOICE, assumption log 1). -/
def State.reset : State := { Part.reset 5 with pending := [] }

end Sys2Proof.Machine
end

