-- ==== Sys2Proof/Machine/Memory.lean ====
section
/-! DEFINITION. Byte order, and the bytes of a record image as canonical memory. -/

namespace Sys2Proof.Machine

/-- The number a run of bytes stands for, most significant byte first (R192). -/
def beNat (bs : List Byte) : Nat := bs.foldl (fun n b => n * 256 + b.toNat) 0

/-- A number as k bytes, most significant first; bits above the field are dropped (R192). -/
def beBytes : Nat → Nat → List Byte
  | 0, _ => []
  | k + 1, n => BitVec.ofNat 8 (n / 256 ^ k) :: beBytes k n

/-- A one-byte field. -/
def be1 (n : Nat) : List Byte := beBytes 1 n

/-- A two-byte field. -/
def be2 (n : Nat) : List Byte := beBytes 2 n

/-- A three-byte field. -/
def be3 (n : Nat) : List Byte := beBytes 3 n

/-- A four-byte field. -/
def be4 (n : Nat) : List Byte := beBytes 4 n

/-- A signed two-byte field, two's complement (chapter 11). -/
def beInt2 (n : Int) : List Byte := be2 (n % 65536).toNat

/-- A signed four-byte field, two's complement (chapter 11). -/
def beInt4 (n : Int) : List Byte := be4 (n % 4294967296).toNat

/-- A flag byte: 1 when set (R192). -/
def beFlag (b : Bool) : List Byte := be1 (if b then 1 else 0)

/-- An optional value: a presence byte and the value, or 0 and as many zero bytes (R192). -/
def beOpt (zeros : Nat) (f : α → List Byte) : Option α → List Byte
  | some a => be1 1 ++ f a
  | none => be1 0 ++ List.replicate zeros 0

/-- What an address reads as: its listed byte, or 0 when unlisted (R40). -/
def Memory.read : Memory → Nat → Byte
  | [], _ => 0
  | (b, v) :: rest, a => if b = a then v else Memory.read rest a

/-- The memory with one byte written; writing 0 removes the entry. -/
def Memory.write : Memory → Nat → Byte → Memory
  | [], a, v => if v = 0 then [] else [(a, v)]
  | (b, w) :: rest, a, v =>
    if a < b then (if v = 0 then (b, w) :: rest else (a, v) :: (b, w) :: rest)
    else if a = b then (if v = 0 then rest else (a, v) :: rest)
    else (b, w) :: Memory.write rest a v

/-- The memory with a run of bytes written from an address on. -/
def Memory.writeAll : Memory → Nat → List Byte → Memory
  | m, _, [] => m
  | m, a, v :: vs => Memory.writeAll (Memory.write m a v) (a + 1) vs

/-- A run of bytes read from an address on. -/
def Memory.readAll (m : Memory) (a n : Nat) : List Byte := (List.range n).map (fun i => m.read (a + i))

/-- The canonical form: addresses strictly rising, no byte equal to what an unlisted address reads as. -/
abbrev Memory.wf (m : Memory) : Prop := m.Pairwise (fun x y => x.1 < y.1) ∧ ∀ x ∈ m, x.2 ≠ 0

end Sys2Proof.Machine
end

