-- ==== Sys2Proof/Machine/Ops.lean ====
section
/-! DEFINITION. The named operations over the registers of the part: one reader and one update for each kind of
state, and the lookups that several blocks share. -/

namespace Sys2Proof.Machine

/-! ### Readers -/

def Part.record (s : Part) (r : RecId) : Record := s.store.at r
def Part.rundown (s : Part) (p : ProgId) : Rundown := s.rundowns.at p
def Part.runner (s : Part) (p : ProgId) : Runner := s.runners.at p
def Part.firing (s : Part) (p : ProgId) : Firing := s.firings.at p
def Part.airingSet (s : Part) (p : ProgId) : List ChanId := s.airing.at p
def Part.timing (s : Part) (p : ProgId) : Timing := s.timings.at p
def Part.presenter (s : Part) (k : PresId) : Presenter := s.presenters.at k
def Part.channel (s : Part) (c : ChanId) : Channel := s.channels.at c
def Part.line (s : Part) (l : LineId) : Line := s.lines.at l

/-! ### Updates -/

def Part.onPort (s : Part) (f : Port → Port) : Part := { s with port := f s.port }
def Part.onIntake (s : Part) (f : Intake → Intake) : Part := { s with intake := f s.intake }
def Part.onClock (s : Part) (f : Clock → Clock) : Part := { s with clock := f s.clock }
def Part.onRecord (s : Part) (r : RecId) (f : Record → Record) : Part := { s with store := s.store.upd r f }
def Part.onRundown (s : Part) (p : ProgId) (f : Rundown → Rundown) : Part :=
  { s with rundowns := s.rundowns.upd p f }
def Part.onRunner (s : Part) (p : ProgId) (f : Runner → Runner) : Part := { s with runners := s.runners.upd p f }
def Part.onFiring (s : Part) (p : ProgId) (f : Firing → Firing) : Part := { s with firings := s.firings.upd p f }
def Part.onAiring (s : Part) (p : ProgId) (f : List ChanId → List ChanId) : Part :=
  { s with airing := s.airing.upd p f }
def Part.onTiming (s : Part) (p : ProgId) (f : Timing → Timing) : Part := { s with timings := s.timings.upd p f }
def Part.onPresenter (s : Part) (k : PresId) (f : Presenter → Presenter) : Part :=
  { s with presenters := s.presenters.upd k f }
def Part.onChannel (s : Part) (c : ChanId) (f : Channel → Channel) : Part :=
  { s with channels := s.channels.upd c f }
def Part.onLine (s : Part) (l : LineId) (f : Line → Line) : Part := { s with lines := s.lines.upd l f }
def Part.setTrunkLoss (s : Part) (t : TrunkLoss) : Part := { s with trunkLoss := t }
def Part.setNotices (s : Part) (q : List Notice) (lost : Bool) : Part :=
  { s with notices := q, noticesLost := lost }
def Part.addDraw (s : Part) : Part := { s with draws := s.draws + 1 }

/-- Do one thing for each member of a list, in order. -/
def Part.forEach (s : Part) (l : List ι) (f : ι → Part → Part) : Part := l.foldl (fun t i => f i t) s

/-! ### Counts that wrap -/

/-- Frame counts are taken modulo 2^32 (R25). -/
def wrap32 (n : Nat) : Nat := n % 4294967296

/-- A later frame count minus an earlier one, modulo 2^32 (R25). -/
def since (later earlier : Nat) : Nat := (later + 4294967296 - earlier % 4294967296) % 4294967296

/-! ### Entries of a list (R62 to R64) -/

/-- The entry of a list that carries a tag. -/
def Rundown.entry? (r : Rundown) (tag : Nat) : Option Entry := r.entries.find? (fun e => e.tag == tag)

/-- The entry of a list in state NEXT. -/
def Rundown.next? (r : Rundown) : Option Entry := r.entries.find? (fun e => e.state == .next)

/-- The entry of a list in state ON_AIR. -/
def Rundown.onAir? (r : Rundown) : Option Entry := r.entries.find? (fun e => e.state == .onAir)

/-- A program's NEXT entry. -/
def Part.nextEntry (s : Part) (p : ProgId) : Option Entry := (s.rundown p).next?

/-- A program's ON_AIR entry. -/
def Part.onAirEntry (s : Part) (p : ProgId) : Option Entry := (s.rundown p).onAir?

/-- The tag of an entry, 0 for none (R65, R84). -/
def tagOr0 (e : Option Entry) : Nat := (e.map Entry.tag).getD 0

/-- The list with the entry of a tag changed. -/
def Rundown.mapEntry (r : Rundown) (tag : Nat) (f : Entry → Entry) : Rundown :=
  { r with entries := r.entries.map (fun e => if e.tag = tag then f e else e) }

/-- A program's entry of a tag changed. -/
def Part.onEntry (s : Part) (p : ProgId) (tag : Nat) (f : Entry → Entry) : Part :=
  s.onRundown p (fun r => r.mapEntry tag f)

/-- Free entries of the pool: 256 less the entries of the four lists (R61). -/
def Part.poolFree (s : Part) : Nat := 256 - (allPrograms.map (fun p => (s.rundown p).entries.length)).sum

/-! ### Elapsed time (R86) -/

/-- The elapsed of the ON_AIR entry, none without one. -/
def Part.elapsed (s : Part) (p : ProgId) : Option Nat :=
  (s.onAirEntry p).map (fun e =>
    match (s.runner p).held with
    | some h => h
    | none => since (since s.clock.frame (e.takeFrame.getD 0)) (s.runner p).correction)

/-- The elapsed is counting: an ON_AIR entry, and no hold (R91, R129). -/
def Part.elapsedRuns (s : Part) (p : ProgId) : Bool :=
  (s.runner p).state == .running
    || ((s.runner p).state == .parkPending && (s.onAirEntry p).isSome && (s.runner p).held.isNone)

/-- A part that is in reset or whose straps make it a pure repeater does nothing but repeat (R14). -/
def Part.active (s : Part) : Bool := !s.port.resetAsserted && (1 ≤ s.port.node) && (s.port.node ≤ 62)

end Sys2Proof.Machine
end

