-- ==== Sys2Proof/Machine/Clock.lean ====
section
/-! DEFINITION. Frame time and timecode (chapter 2): rates, labels, signed differences, reached points, seconds. -/

namespace Sys2Proof.Machine

/-- Numerator of the exact frame rate (R23). -/
def rateNum : Rate → Nat
  | .r25 => 25 | .r30df => 30000 | .r30 => 30 | .r50 => 50 | .r60df => 60000 | .r60 => 60

/-- Denominator of the exact frame rate (R23). -/
def rateDen : Rate → Nat
  | .r25 => 1 | .r30df => 1001 | .r30 => 1 | .r50 => 1 | .r60df => 1001 | .r60 => 1

/-- Nominal frame rate n (R23). -/
def rateNominal : Rate → Nat
  | .r25 => 25 | .r30df => 30 | .r30 => 30 | .r50 => 50 | .r60df => 60 | .r60 => 60

/-- Labels skipped at each drop minute, k (R23). -/
def rateSkip : Rate → Nat
  | .r25 => 0 | .r30df => 2 | .r30 => 0 | .r50 => 0 | .r60df => 4 | .r60 => 0

/-- Frames in a day, D (R23). -/
def rateDay : Rate → Nat
  | .r25 => 2160000 | .r30df => 2589408 | .r30 => 2592000 | .r50 => 4320000 | .r60df => 5178816 | .r60 => 5184000

/-- The drop-frame flag of a rate's markers (R3, R23). -/
def rateDrop (r : Rate) : Bool := rateSkip r != 0

/-- The frame period of the internal tick, den and num of den/num seconds (R24). -/
def tickPeriod (c : Clock) : Nat × Nat := (rateDen c.tickRate, rateNum c.tickRate)

/-- A timecode label HH:MM:SS:FF. -/
structure Label where
  hh : Nat
  mm : Nat
  ss : Nat
  ff : Nat
deriving DecidableEq, Repr

/-- The label is in range for a rate (R28). -/
def labelInRange (r : Rate) (l : Label) : Bool :=
  l.hh ≤ 23 && l.mm ≤ 59 && l.ss ≤ 59 && l.ff < rateNominal r

/-- The label is one that drop-frame labelling skips (R31). -/
def labelSkipped (r : Rate) (l : Label) : Bool := l.ss == 0 && l.mm % 10 != 0 && l.ff < rateSkip r

/-- The first existing label at or after a label in range (R31). -/
def labelRead (r : Rate) (l : Label) : Label := if labelSkipped r l then { l with ff := rateSkip r } else l

/-- The day frame of an existing label (R29, R30). -/
def labelDay (r : Rate) (l : Label) : Nat :=
  let tm := l.hh * 60 + l.mm
  (l.hh * 3600 + l.mm * 60 + l.ss) * rateNominal r + l.ff - rateSkip r * (tm - tm / 10)

/-- The label whose count from midnight is L, at the nominal rate (R32, step 4 of R33). -/
def labelOfCount (n count : Nat) : Label :=
  { hh := count / (3600 * n), mm := count / (60 * n) % 60, ss := count / n % 60, ff := count % n }

/-- The label of a day frame (R32, R33). -/
def dayLabel (r : Rate) (f : Nat) : Label :=
  let n := rateNominal r
  let k := rateSkip r
  if k = 0 then labelOfCount n f
  else
    let t := 600 * n - 9 * k
    let m := 60 * n - k
    let q := f / t
    let rest := f % t
    let adjust := if rest < k then 0 else k * ((rest - k) / m)
    labelOfCount n (f + 9 * k * q + adjust)

/-- The signed difference of two day frames (R34). -/
def signedDiff (r : Rate) (a b : Nat) : Int :=
  let d := rateDay r
  let m := (a + d - b % d) % d
  if 2 * m > d then (m : Int) - d else m

/-- A time point is reached at the last frame start (R35, R27). -/
def Clock.reached (c : Clock) (t : Nat) : Bool :=
  !c.rateStart && t < rateDay c.rate && signedDiff c.rate c.prevDay t < 0 && 0 ≤ signedDiff c.rate c.day t

/-- P_MAX, one hour of frames (R36). -/
def pMax (r : Rate) : Nat := 3600 * rateNum r / rateDen r

/-- The half-day limit (R36). -/
def halfDay (r : Rate) : Nat := rateDay r / 2 - 1

/-- A value held between two bounds. -/
def clampInt (lo hi v : Int) : Int := if v < lo then lo else if v > hi then hi else v

/-- Frames to whole seconds, toward zero, clamped (R37). -/
def toSeconds (r : Rate) (f : Int) : Int :=
  clampInt (-32767) 32767 (Int.tdiv (f * (rateDen r : Int)) (rateNum r : Int))

/-- Whole seconds to frames, rounded up (R38). -/
def secondsToFrames (r : Rate) (s : Nat) : Nat := (s * rateNum r + rateDen r - 1) / rateDen r

end Sys2Proof.Machine
end

