-- ==== Sys2Proof/Machine/Notices.lean ====
section
/-! DEFINITION. The Notice Queue (R180 to R184). -/

namespace Sys2Proof.Machine

/-- Most notices the queue holds (R181). -/
def noticeMax : Nat := 32

/-- A notice of this kind and subject is present (R182). -/
def noticePresent (k : NoticeKind) (sub : Subject) (q : List Notice) : Bool :=
  q.any (fun n => n.kind == k && n.subject == sub)

/-- The count of the matching notice rises by one, stopping at 255 (R182). -/
def noticeCount (k : NoticeKind) (sub : Subject) (q : List Notice) : List Notice :=
  q.map (fun n => if n.kind = k ∧ n.subject = sub then { n with count := min 255 (n.count + 1) } else n)

/-- A notice enters after every present notice of its own priority or a more urgent one (R182). -/
def noticeEnter (n : Notice) : List Notice → List Notice
  | [] => [n]
  | m :: rest => if m.kind.priority ≤ n.kind.priority then m :: noticeEnter n rest else n :: m :: rest

/-- The queue and NOTICES_LOST after a notice is raised at a frame count (R182, R183). The queue stands in order,
so the notice that entered last among the least urgent is its last one. -/
def noticeRaise (k : NoticeKind) (sub : Subject) (frame : Nat) (q : List Notice) (lost : Bool) :
    List Notice × Bool :=
  let n : Notice := { kind := k, subject := sub, first := frame, count := 1 }
  if noticePresent k sub q then (noticeCount k sub q, lost)
  else if q.length < noticeMax then (noticeEnter n q, lost)
  else if q.all (fun m => m.kind.priority ≤ k.priority) then (q, true)
  else (noticeEnter n q.dropLast, true)

/-- A block raises a notice (R180, R182, R183). -/
def Part.raise (s : Part) (k : NoticeKind) (sub : Subject) : Part :=
  let r := noticeRaise k sub s.clock.frame s.notices s.noticesLost
  s.setNotices r.1 r.2

/-- The subject of a notice about a row or command: program, tag and channel; a tag of 0 is absent (R180). -/
def cueSubject (p : ProgId) (tag : Nat) (c : ChanId) : Subject :=
  { program := some p, tag := if tag = 0 then none else some tag, channel := some (chanNo c) }

end Sys2Proof.Machine
end

