-- ==== Sys2Proof/Machine/Operands.lean ====
section
/-! DEFINITION. The operands of a command as its message carries them (R192, R193): the commands, the payload each
is sent as, the check of a payload when it is taken (R18), and the reply a command gives (R19). -/

namespace Sys2Proof.Machine

/-- A command message's content once its code and length are known (R193). -/
inductive Command
  | resetNode
  | setSlots (status : Byte) (replies : List Byte)
  | setRate (rate : Byte)
  | readStory (record : Byte) (offset : Half) (length : Byte)
  | readList (program start form : Byte)
  | readProgram (program start : Byte)
  | readEvents (program table start : Byte)
  | readChannel (channel : Byte)
  | readLines (start : Byte)
  | readPresenters
  | readNotices (start : Byte)
  | readNode
  | readUnknown (target : Byte)
  | ackNotice (n : Byte)
  | openStory (slug note : Byte) (cueText : Half)
  | openStoryCopyFrom (slug note : Byte) (cueText : Half) (source : Byte)
  | writeStory (record field : Byte) (index : Half) (data : List Byte)
  | closeStory (record : Byte) (expected : Half)
  | freeStory (record : Byte)
  | insertEntry (program : Byte) (tag : Half) (record : Byte) (after : Half)
  | appendEntries (program : Byte) (pairs : List (Half × Byte))
  | moveEntry (program : Byte) (tag after : Half)
  | dropEntry (program : Byte) (tag : Half)
  | restoreEntry (program : Byte) (tag : Half)
  | relinkEntry (program : Byte) (tag : Half) (record : Byte)
  | trimDone (program : Byte)
  | clearRundown (program : Byte)
  | setNext (program : Byte) (tag : Half)
  | take (program : Byte) (expected : Half)
  | hold (program : Byte)
  | release (program : Byte)
  | endShow (program : Byte)
  | park (program : Byte)
  | unpark (program : Byte)
  | breakIn (program given record takeNow : Byte)
  | setMode (program mode : Byte)
  | setProgram (program priority : Byte) (hardOut : Word) (w1 w2 : Half) (given record : Byte)
  | programReset (program : Byte)
  | fire (program index : Byte)
  | setPresenter (presenter rate cue standby : Byte)
  | configureChannel (channel kind slot node shareable ackWindow rollGrace staleLimit : Byte)
  | setLine (line function first second polarity holdPolicy debounce : Byte)
  | driveLine (line level : Byte)
  | armLine (line : Byte)
  | disarmLine (line : Byte)
deriving DecidableEq, Repr

/-- The command code (R193). -/
def Command.code : Command → Nat
  | .resetNode => 0x01
  | .setSlots _ _ => 0x02
  | .setRate _ => 0x03
  | .readStory _ _ _ | .readList _ _ _ | .readProgram _ _ | .readEvents _ _ _ | .readChannel _ | .readLines _
  | .readPresenters | .readNotices _ | .readNode | .readUnknown _ => 0x04
  | .ackNotice _ => 0x05
  | .openStory _ _ _ | .openStoryCopyFrom _ _ _ _ => 0x10
  | .writeStory _ _ _ _ => 0x11
  | .closeStory _ _ => 0x12
  | .freeStory _ => 0x13
  | .insertEntry _ _ _ _ => 0x20
  | .appendEntries _ _ => 0x21
  | .moveEntry _ _ _ => 0x22
  | .dropEntry _ _ => 0x23
  | .restoreEntry _ _ => 0x24
  | .relinkEntry _ _ _ => 0x25
  | .trimDone _ => 0x26
  | .clearRundown _ => 0x27
  | .setNext _ _ => 0x28
  | .take _ _ => 0x30
  | .hold _ => 0x31
  | .release _ => 0x32
  | .endShow _ => 0x33
  | .park _ => 0x34
  | .unpark _ => 0x35
  | .breakIn _ _ _ _ => 0x36
  | .setMode _ _ => 0x37
  | .setProgram _ _ _ _ _ _ _ => 0x38
  | .programReset _ => 0x39
  | .fire _ _ => 0x3A
  | .setPresenter _ _ _ _ => 0x40
  | .configureChannel _ _ _ _ _ _ _ _ => 0x48
  | .setLine _ _ _ _ _ _ _ => 0x50
  | .driveLine _ _ => 0x51
  | .armLine _ => 0x52
  | .disarmLine _ => 0x53

/-- Two bytes as a field, most significant first. -/
def half (hi lo : Byte) : Half := BitVec.ofNat 16 (beNat [hi, lo])

/-- Four bytes as a field, most significant first. -/
def word (a b c d : Byte) : Word := BitVec.ofNat 32 (beNat [a, b, c, d])

/-- A two-byte field as its bytes. -/
def halfBytes (h : Half) : List Byte := be2 h.toNat

/-- A four-byte field as its bytes. -/
def wordBytes (w : Word) : List Byte := be4 w.toNat

/-- Pairs of a tag and a record number, three bytes each (R193). -/
def pairBytes (ps : List (Half × Byte)) : List Byte := ps.flatMap (fun p => halfBytes p.1 ++ [p.2])

/-- The pairs a run of bytes carries, none when its length is no multiple of three. -/
def parsePairs : List Byte → Option (List (Half × Byte))
  | [] => some []
  | a :: b :: r :: rest => (parsePairs rest).map (fun ps => (half a b, r) :: ps)
  | [_] | [_, _] => none

/-- The parameters after the code byte, in the order and sizes of R193. -/
def Command.params : Command → List Byte
  | .resetNode => []
  | .setSlots st rs => st :: BitVec.ofNat 8 rs.length :: rs
  | .setRate r => [r]
  | .readStory r off len => [0, r] ++ halfBytes off ++ [len]
  | .readList p i form => [1, p, i, form]
  | .readProgram p i => [2, p, i]
  | .readEvents p t i => [3, p, t, i]
  | .readChannel c => [4, c]
  | .readLines l => [5, l]
  | .readPresenters => [6]
  | .readNotices i => [7, i]
  | .readNode => [8]
  | .readUnknown t => [t]
  | .ackNotice n => [n]
  | .openStory a b c => [a, b] ++ halfBytes c
  | .openStoryCopyFrom a b c r => [a, b] ++ halfBytes c ++ [r]
  | .writeStory r f i d => [r, f] ++ halfBytes i ++ d
  | .closeStory r n => [r] ++ halfBytes n
  | .freeStory r => [r]
  | .insertEntry p t r a => [p] ++ halfBytes t ++ [r] ++ halfBytes a
  | .appendEntries p ps => [p, BitVec.ofNat 8 ps.length] ++ pairBytes ps
  | .moveEntry p t a => [p] ++ halfBytes t ++ halfBytes a
  | .dropEntry p t => [p] ++ halfBytes t
  | .restoreEntry p t => [p] ++ halfBytes t
  | .relinkEntry p t r => [p] ++ halfBytes t ++ [r]
  | .trimDone p => [p]
  | .clearRundown p => [p]
  | .setNext p t => [p] ++ halfBytes t
  | .take p t => [p] ++ halfBytes t
  | .hold p => [p]
  | .release p => [p]
  | .endShow p => [p]
  | .park p => [p]
  | .unpark p => [p]
  | .breakIn p g r n => [p, g, r, n]
  | .setMode p m => [p, m]
  | .setProgram p pr h w1 w2 g r => [p, pr] ++ wordBytes h ++ halfBytes w1 ++ halfBytes w2 ++ [g, r]
  | .programReset p => [p]
  | .fire p i => [p, i]
  | .setPresenter k r c t => [k, r, c, t]
  | .configureChannel a b c d e f g h => [a, b, c, d, e, f, g, h]
  | .setLine a b c d e f g => [a, b, c, d, e, f, g]
  | .driveLine l v => [l, v]
  | .armLine l => [l]
  | .disarmLine l => [l]

/-- The payload a command message is sent as (R192, R193). -/
def Command.encode (c : Command) : List Byte := BitVec.ofNat 8 c.code :: c.params

/-- A READ's target and parameters; none is a known target with a wrong length (R193). -/
def parseRead : List Byte → Option Command
  | [] => none
  | t :: ps =>
    match t.toNat, ps with
    | 0, [r, a, b, len] => some (.readStory r (half a b) len)
    | 1, [p, i, form] => some (.readList p i form)
    | 2, [p, i] => some (.readProgram p i)
    | 3, [p, tb, i] => some (.readEvents p tb i)
    | 4, [c] => some (.readChannel c)
    | 5, [l] => some (.readLines l)
    | 6, [] => some .readPresenters
    | 7, [i] => some (.readNotices i)
    | 8, [] => some .readNode
    | n, _ => if n ≤ 8 then none else some (.readUnknown t)

/-- SET_SLOTS: the length must fit the count (R13, R193). -/
def parseSlots : List Byte → Option Command
  | st :: n :: rs => if rs.length = n.toNat then some (.setSlots st rs) else none
  | _ => none

/-- APPEND_ENTRIES: a count from 1 to 30 that the length matches (R68). -/
def parseAppend : List Byte → Option Command
  | p :: n :: rest =>
    if 1 ≤ n.toNat ∧ n.toNat ≤ 30 ∧ rest.length = 3 * n.toNat then
      (parsePairs rest).map (fun ps => .appendEntries p ps)
    else none
  | _ => none

/-- The command of a known code with these parameters, none when the length is wrong for it (R18, R193). -/
def parseParams (code : Nat) (ps : List Byte) : Option Command :=
  match code, ps with
  | 0x01, [] => some .resetNode
  | 0x02, ps => parseSlots ps
  | 0x03, [r] => some (.setRate r)
  | 0x04, ps => parseRead ps
  | 0x05, [n] => some (.ackNotice n)
  | 0x10, [a, b, c, d] => some (.openStory a b (half c d))
  | 0x10, [a, b, c, d, r] => some (.openStoryCopyFrom a b (half c d) r)
  | 0x11, r :: f :: a :: b :: d => some (.writeStory r f (half a b) d)
  | 0x12, [r, a, b] => some (.closeStory r (half a b))
  | 0x13, [r] => some (.freeStory r)
  | 0x20, [p, a, b, r, c, d] => some (.insertEntry p (half a b) r (half c d))
  | 0x21, ps => parseAppend ps
  | 0x22, [p, a, b, c, d] => some (.moveEntry p (half a b) (half c d))
  | 0x23, [p, a, b] => some (.dropEntry p (half a b))
  | 0x24, [p, a, b] => some (.restoreEntry p (half a b))
  | 0x25, [p, a, b, r] => some (.relinkEntry p (half a b) r)
  | 0x26, [p] => some (.trimDone p)
  | 0x27, [p] => some (.clearRundown p)
  | 0x28, [p, a, b] => some (.setNext p (half a b))
  | 0x30, [p, a, b] => some (.take p (half a b))
  | 0x31, [p] => some (.hold p)
  | 0x32, [p] => some (.release p)
  | 0x33, [p] => some (.endShow p)
  | 0x34, [p] => some (.park p)
  | 0x35, [p] => some (.unpark p)
  | 0x36, [p, g, r, n] => some (.breakIn p g r n)
  | 0x37, [p, m] => some (.setMode p m)
  | 0x38, [p, pr, a, b, c, d, e, f, g, h, i, j] =>
    some (.setProgram p pr (word a b c d) (half e f) (half g h) i j)
  | 0x39, [p] => some (.programReset p)
  | 0x3A, [p, i] => some (.fire p i)
  | 0x40, [k, r, c, t] => some (.setPresenter k r c t)
  | 0x48, [a, b, c, d, e, f, g, h] => some (.configureChannel a b c d e f g h)
  | 0x50, [a, b, c, d, e, f, g] => some (.setLine a b c d e f g)
  | 0x51, [l, v] => some (.driveLine l v)
  | 0x52, [l] => some (.armLine l)
  | 0x53, [l] => some (.disarmLine l)
  | _, _ => none

/-- The command codes of R193. -/
def knownCodes : List Nat :=
  [0x01, 0x02, 0x03, 0x04, 0x05, 0x10, 0x11, 0x12, 0x13, 0x20, 0x21, 0x22, 0x23, 0x24, 0x25, 0x26, 0x27, 0x28,
   0x30, 0x31, 0x32, 0x33, 0x34, 0x35, 0x36, 0x37, 0x38, 0x39, 0x3A, 0x40, 0x48, 0x50, 0x51, 0x52, 0x53]

/-- What a taken payload is: a command, or MALFORMED with the detail 0 for an unknown code, 1 for a wrong length
and 2 for an empty payload (R18). -/
def parseCommand : List Byte → Except Nat Command
  | [] => .error 2
  | code :: ps =>
    match parseParams code.toNat ps with
    | some c => .ok c
    | none => if code.toNat ∈ knownCodes then .error 1 else .error 0

/-- A command's answer: result, detail (none where its rule states no detail) and data (R19, R192). -/
structure Reply where
  result : ResultCode
  detail : Option Nat
  data   : List Byte
deriving DecidableEq, Repr

/-- DONE with data; no rule states a detail for it. -/
def Reply.done (data : List Byte) : Reply := { result := .done, detail := none, data := data }

/-- A refusal with the detail its rule states. -/
def Reply.refuse (r : ResultCode) (detail : Nat) (data : List Byte) : Reply :=
  { result := r, detail := some detail, data := data }

/-- A refusal whose rule states no detail. -/
def Reply.refusePlain (r : ResultCode) (data : List Byte) : Reply := { result := r, detail := none, data := data }

/-- RANGE, detail 1: a program code above 3 (R65, R84, R186). -/
def Reply.badProgram : Reply := Reply.refuse .range 1 []

/-- RANGE, detail 16, with the position of the first parameter at fault, counting from 1 after the code (R84,
R133). -/
def Reply.badParam (position : Nat) : Reply := Reply.refuse .range 16 (be1 position)

/-- MALFORMED, detail 1: a wrong length (R18, R47). -/
def Reply.badLength : Reply := Reply.refuse .malformed 1 []

/-- The response payload: echoed code, result, detail, data (R192). -/
def Reply.payload (code : Nat) (r : Reply) : List Byte :=
  let detail := match r.detail with
    | some d => BitVec.ofNat 8 d
    | none => Config.unstatedDetail code r.result.code
  BitVec.ofNat 8 code :: BitVec.ofNat 8 r.result.code :: detail :: r.data

end Sys2Proof.Machine
end

