-- ==== Sys2Proof/Machine/Store.lean ====
section
/-! DEFINITION. The Story Store (chapter 3): the record image, the fields of a story, the story commands, and the
requests to add, remove and move a link. -/

namespace Sys2Proof.Machine

/-! ### The record image (R194) -/

/-- The part-maintained bytes 0 to 7 of an image. -/
def Record.head (r : Record) : List Byte :=
  be1 r.state.code ++ be1 r.version ++ be1 r.links ++ beFlag r.retire ++ be2 r.words ++ be2 r.sum

/-- A byte of the 768-byte image. -/
def Record.byteAt (r : Record) (a : Nat) : Byte := if a < 8 then r.head.getD a 0 else r.content.read a

/-- A field of the content: k bytes at an offset, as a number. -/
def Record.field (r : Record) (a k : Nat) : Nat := beNat (r.content.readAll a k)

/-- The record with content bytes written. -/
def Record.put (r : Record) (a : Nat) (bs : List Byte) : Record := { r with content := r.content.writeAll a bs }

/-! ### Settings of a story (R42) -/

def Record.presenterNo (r : Record) : Nat := r.field 8 1
def Record.presenter? (r : Record) : Option PresId := presOf r.presenterNo
def Record.endRule (r : Record) : EndRule := (EndRule.ofCode (r.field 9 1)).getD .manual
def Record.timing? (r : Record) : Option ChanId := chanOf (r.field 10 1)
def Record.eventCount (r : Record) : Nat := r.field 11 1
def Record.options (r : Record) : Nat := r.field 12 2
def Record.holdOnTake (r : Record) : Bool := r.options % 2 == 1
def Record.noWrap (r : Record) : Bool := r.options / 2 % 2 == 1
def Record.planned (r : Record) : Nat := r.field 14 4
def Record.pad (r : Record) : Nat := r.field 18 2
def Record.hardStartRaw (r : Record) : Nat := r.field 20 4
def Record.prompterId (r : Record) : Nat := r.field 24 4
def Record.slugSize (r : Record) : Nat := r.field 28 1
def Record.noteSize (r : Record) : Nat := r.field 29 1
def Record.cueSize (r : Record) : Nat := r.field 30 2

/-- The value of a hard start or hard-out field that means none. -/
def noneDay : Nat := 0xFFFFFFFF

/-- The hard start, none for 0xFFFFFFFF (R42). -/
def Record.hardStart? (r : Record) : Option Nat :=
  if r.hardStartRaw = noneDay then none else some r.hardStartRaw

/-! ### Event slots (R43, R194) -/

/-- Where event slot i stands in the image. -/
def slotBase (i : Nat) : Nat := 32 + 12 * i

/-- The slot holds an anchor, a channel and an action of R43. -/
def Record.slotComplete (r : Record) (i : Nat) : Bool :=
  (Anchor.ofCode (r.field (slotBase i) 1)).isSome && (chanOf (r.field (slotBase i + 1) 1)).isSome
    && (Action.ofCode (r.field (slotBase i + 2) 1)).isSome

/-- The channel of an event slot. -/
def Record.slotChannel? (r : Record) (i : Nat) : Option ChanId := chanOf (r.field (slotBase i + 1) 1)

/-- The row an event slot gives (R127). A READY record's slots in use are complete (R53), so the stand-ins for a
missing anchor, channel or action are never used. -/
def Record.slotRow (r : Record) (i : Nat) : Row :=
  { anchor := (Anchor.ofCode (r.field (slotBase i) 1)).getD .manual
    channel := (r.slotChannel? i).getD 0
    action := (Action.ofCode (r.field (slotBase i + 2) 1)).getD .clear
    param := r.field (slotBase i + 3) 2
    offset := r.field (slotBase i + 5) 3
    asset := r.field (slotBase i + 8) 4
    due := none, outcome := .waiting, held := none, heldAt := 0, posting := none }

/-- The rows of a story: one for each slot below its event count (R127). -/
def Record.rows (r : Record) : List Row := (List.range r.eventCount).map r.slotRow

/-- A channel is used by a story: an event slot in use names it, or it is the timing channel (R150). -/
def Record.uses (r : Record) (c : ChanId) : Bool :=
  (List.range r.eventCount).any (fun i => r.slotChannel? i == some c) || r.timing? == some c

/-! ### Text (R44, R52) -/

/-- Where a text field starts in the image. -/
def Record.textStart (r : Record) : TextField → Nat
  | .slug => 224
  | .note => 224 + r.slugSize
  | .cueText => 224 + r.slugSize + r.noteSize

/-- A text field's allotment. -/
def Record.textSize (r : Record) : TextField → Nat
  | .slug => r.slugSize
  | .note => r.noteSize
  | .cueText => r.cueSize

/-- A text field's text: up to its first zero byte, or the whole allotment (R44). -/
def Record.text (r : Record) (f : TextField) : List Byte :=
  (r.content.readAll (r.textStart f) (r.textSize f)).takeWhile (fun b => b != 0)

/-- Words of a text from a point at which a word, or a presenter instruction, is or is not in progress. An
instruction that never closes runs to the end of the field, which excludes the same bytes (R52). -/
def countWords : Bool → Bool → List Byte → Nat
  | _, _, [] => 0
  | inWord, true, b :: rest => countWords inWord (b != 0x5D) rest
  | inWord, false, b :: rest =>
    if b = 0x5B then countWords false true rest
    else if b = 0x20 ∨ b = 0x0A ∨ b = 0x0D then countWords false false rest
    else (if inWord then 0 else 1) + countWords true false rest

/-- The word count of a record's cue text (R52). -/
def Record.wordCount (r : Record) : Nat := countWords false false (r.text .cueText)

/-- The content sum: the 760 content bytes added, modulo 65,536 (R51). -/
def Record.contentSum (r : Record) : Nat := ((r.content.readAll 8 760).map BitVec.toNat).sum % 65536

/-! ### Links (R56 to R58) -/

/-- Why a link to a record would be refused, none when it is granted (R56). -/
def linkRefusal (r : Record) : Option ResultCode :=
  match r.state with
  | .free => some .notFound
  | .opened => some .busy
  | .ready => if r.links < 255 then none else some .full

/-- The link count rises by one (R56). -/
def Part.addLink (s : Part) (r : RecId) : Part := s.onRecord r (fun x => { x with links := x.links + 1 })

/-- The link count falls by one; a record at 0 with its retire flag set becomes FREE (R57). -/
def Record.unlinked (x : Record) : Record :=
  if x.links - 1 = 0 ∧ x.retire = true then Record.free else { x with links := x.links - 1 }

/-- A request to remove a link (R57). -/
def Part.removeLink (s : Part) (r : RecId) : Part := s.onRecord r Record.unlinked

/-- A relink whose add is granted: the new link first, then the old one removed (R58). -/
def Part.moveLink (s : Part) (old new : RecId) : Part := (s.addLink new).removeLink old

/-! ### Story commands -/

/-- A record number as it is carried. -/
def recOf (b : Byte) : RecId := b.toFin

/-- The lowest-numbered FREE record (R45). -/
def Part.lowestFree (s : Part) : Option RecId := allRecords.find? (fun r => (s.record r).state == .free)

/-- An OPEN record with the three allotments and otherwise zero content (R45). -/
def Record.openedWith (slug note cue : Nat) : Record :=
  ({ Record.free with state := .opened }).put 28 (be1 slug ++ be1 note ++ be2 cue)

/-- An OPEN copy of a source's content and version (R46). -/
def Record.copyOf (src : Record) : Record :=
  { Record.free with state := .opened, version := src.version, content := src.content }

/-- OPEN_STORY without copy-from (R45). -/
def cmdOpenStory (slug note : Byte) (cue : Half) (s : Part) : Part × Reply :=
  if slug.toNat > 32 ∨ note.toNat > 64 ∨ slug.toNat + note.toNat + cue.toNat > 544 then
    (s, Reply.refusePlain .range [])
  else match s.lowestFree with
    | none => (s, Reply.refusePlain .full [])
    | some r =>
      (s.onRecord r (fun _ => Record.openedWith slug.toNat note.toNat cue.toNat),
        Reply.done (be1 r.val ++ be1 0))

/-- OPEN_STORY with copy-from: the allotments are ignored (R46). -/
def cmdOpenStoryCopyFrom (source : Byte) (s : Part) : Part × Reply :=
  let src := recOf source
  match (s.record src).state with
  | .free => (s, Reply.refusePlain .notFound [])
  | .opened => (s, Reply.refusePlain .busy [])
  | .ready =>
    match s.lowestFree with
    | none => (s, Reply.refusePlain .full [])
    | some r =>
      ((s.onRecord r (fun _ => (s.record src).copyOf)).onRecord src (fun x => { x with retire := true }),
        Reply.done (be1 r.val ++ be1 (s.record src).version))

/-- The named settings of WRITE_STORY by field code: image offset and size (R193, R194). -/
def settingPlace : Nat → Option (Nat × Nat)
  | 1 => some (8, 1) | 2 => some (9, 1) | 3 => some (10, 1) | 4 => some (11, 1) | 5 => some (12, 2)
  | 6 => some (14, 4) | 7 => some (18, 2) | 8 => some (20, 4) | 9 => some (24, 4)
  | _ => none

/-- The accepted values of a named setting (R48). -/
def settingAccepts (field v : Nat) : Bool :=
  match field with
  | 1 => v ≤ 16
  | 2 => v ≤ 2
  | 3 => v ≤ 24
  | 4 => v ≤ 16
  | 5 => v ≤ 3
  | _ => true

/-- A record that is not OPEN gives BUSY, the data carrying its state (R47). -/
def notOpened (r : Record) : Reply := Reply.refusePlain .busy (be1 r.state.code)

/-- WRITE_STORY of a named setting, or with an unknown selector (R47, R48). -/
def cmdWriteStorySetting (record field : Byte) (data : List Byte) (s : Part) : Part × Reply :=
  let r := recOf record
  match settingPlace field.toNat with
  | none => (s, Reply.badLength)
  | some (a, k) =>
    if data.length ≠ k then (s, Reply.badLength)
    else if (s.record r).state ≠ .opened then (s, notOpened (s.record r))
    else if settingAccepts field.toNat (beNat data) then
      (s.onRecord r (fun x => x.put a data), Reply.done (be1 k))
    else (s, Reply.refusePlain .range [])

/-- The anchor, channel and action an event slot's data names are known ones (R49). -/
def slotDataGood (data : List Byte) : Bool :=
  (Anchor.ofCode (data.getD 0 0).toNat).isSome && (chanOf (data.getD 1 0).toNat).isSome
    && (Action.ofCode (data.getD 2 0).toNat).isSome

/-- WRITE_STORY of an event slot (R47, R49). -/
def cmdWriteStoryEventSlot (record : Byte) (index : Half) (data : List Byte) (s : Part) : Part × Reply :=
  let r := recOf record
  if data.length ≠ 12 then (s, Reply.badLength)
  else if (s.record r).state ≠ .opened then (s, notOpened (s.record r))
  else if index.toNat ≤ 15 ∧ slotDataGood data = true then
    (s.onRecord r (fun x => x.put (slotBase index.toNat) data), Reply.done (be1 12))
  else (s, Reply.refusePlain .range [])

/-- How many bytes of a text write fit its field's allotment (R50). -/
def textFits (r : Record) (f : TextField) (offset n : Nat) : Nat := min n (r.textSize f - offset)

/-- WRITE_STORY of a run of bytes in a text field (R47, R50). -/
def cmdWriteStoryText (record : Byte) (f : TextField) (index : Half) (data : List Byte) (s : Part) :
    Part × Reply :=
  let r := recOf record
  if data.length = 0 ∨ data.length > 187 then (s, Reply.badLength)
  else if (s.record r).state ≠ .opened then (s, notOpened (s.record r))
  else
    let n := textFits (s.record r) f index.toNat data.length
    (s.onRecord r (fun x => x.put (x.textStart f + index.toNat) (data.take n)),
      { result := if n < data.length then .doneTruncated else .done, detail := none, data := be1 n })

/-- WRITE_STORY by its field selector (R47, R193). -/
def cmdWriteStory (record field : Byte) (index : Half) (data : List Byte) (s : Part) : Part × Reply :=
  match field.toNat with
  | 10 => cmdWriteStoryEventSlot record index data s
  | 11 => cmdWriteStoryText record .slug index data s
  | 12 => cmdWriteStoryText record .note index data s
  | 13 => cmdWriteStoryText record .cueText index data s
  | _ => cmdWriteStorySetting record field data s

/-- The lowest event slot in use that is incomplete (R53). -/
def Record.incompleteSlot (r : Record) : Option Nat :=
  (List.range r.eventCount).find? (fun i => !r.slotComplete i)

/-- The record that a successful close leaves (R54). -/
def Record.closed (r : Record) : Record :=
  { r with state := .ready, version := (r.version + 1) % 256, words := r.wordCount, sum := r.contentSum }

/-- CLOSE_STORY (R53, R54). -/
def cmdCloseStory (record : Byte) (expected : Half) (s : Part) : Part × Reply :=
  let r := recOf record
  let x := s.record r
  match x.state with
  | .free => (s, Reply.refusePlain .notFound [])
  | .ready => (s, Reply.refusePlain .busy (be1 x.version))
  | .opened =>
    if x.contentSum ≠ expected.toNat then (s, Reply.refusePlain .sumMismatch (be2 x.contentSum))
    else match x.incompleteSlot with
      | some i => (s, Reply.refusePlain .range (be1 i))
      | none =>
        (s.onRecord r Record.closed, Reply.done (be1 x.closed.version ++ be2 x.wordCount ++ be2 x.contentSum))

/-- FREE_STORY (R55). -/
def cmdFreeStory (record : Byte) (s : Part) : Part × Reply :=
  let r := recOf record
  let x := s.record r
  if x.state = .free then (s, Reply.refusePlain .notFound [])
  else if x.links > 0 then (s, Reply.refusePlain .busy (be1 x.links))
  else (s.onRecord r (fun _ => Record.free), Reply.done [])

end Sys2Proof.Machine
end

