-- ==== Sys2Proof/Machine/Channels.lean ====
section
/-! DEFINITION. The Channel Table (chapter 8): configuration, reports, claims, queues, the current command and
on-states; and the outcomes it hands back to the rows of Event Firing (R126). -/

namespace Sys2Proof.Machine

/-! ### Outcomes handed back (R126) -/

/-- The row's latest post is in flight: POSTED or ISSUED, and not held for READY. Every other outcome is final until
the row is posted again (R127). -/
def Row.inFlight (r : Row) : Bool := r.held.isNone && (r.outcome == .posted || r.outcome == .issued)

/-- A row after an outcome has come back for a posting number: recorded while the row's own post of that number is in
flight, discarded when it is held, given up or SKIPPED after it was fired again (R126, R127, R133). -/
def Row.told (n : Nat) (o : RowOutcome) (r : Row) : Row :=
  if r.posting = some n ∧ r.inFlight = true then { r with outcome := o } else r

/-- Record an outcome in the rows that hold a posting number. -/
def Table.report (t : Table) (n : Nat) (o : RowOutcome) : Table := { t with rows := t.rows.map (Row.told n o) }

/-- An outcome with its posting number reaches the rows of either table; one with none is dropped (R126). -/
def Part.report (s : Part) (p : ProgId) (posting : Option Nat) (o : RowOutcome) : Part :=
  match posting with
  | none => s
  | some n => s.onFiring p (fun f => { f with next := f.next.report n o, onAir := f.onAir.report n o })

/-! ### Configuration and need -/

/-- The channel is shareable; an UNCONFIGURED channel is not (R144). -/
def Channel.shareable (ch : Channel) : Bool :=
  match ch.config with
  | some g => g.shareable
  | none => false

/-- The channel's slot in effect in the owned-slot map, 0 for none (R12, R163). -/
def Channel.slot (ch : Channel) : Nat :=
  match ch.config with
  | some g => g.slot
  | none => ch.keptSlot

/-- The slots a channel takes part in clash checks with: in effect and accepted (R13, R145). -/
def Channel.claimedSlots (ch : Channel) : List Nat :=
  [ch.slot] ++ (ch.pending.map ChanConfig.slot).toList ++ ch.keptNext.toList

/-- The non-shareable channels a story uses (R150). -/
def Part.usedExclusive (s : Part) (r : RecId) : List ChanId :=
  allChannels.filter (fun c => (s.record r).uses c && !(s.channel c).shareable)

/-- The NEXT set of a program (R150). -/
def Part.nextSet (s : Part) (p : ProgId) : List ChanId :=
  if (s.runner p).mode = .live ∧ (s.runner p).givenUp = false then
    match s.nextEntry p with
    | some e => s.usedExclusive e.record
    | none => []
  else []

/-- A program needs a channel: it is LIVE, not PARKED, and the channel is in its airing set or NEXT set (R150). -/
def Part.needs (s : Part) (p : ProgId) (c : ChanId) : Bool :=
  (s.runner p).mode == .live && (s.runner p).state != .parked
    && ((s.airingSet p).contains c || (s.nextSet p).contains c)

/-- A program's priority in effect. -/
def Part.priority (s : Part) (p : ProgId) : Nat := (s.runner p).settings.priority

/-! ### Claims (R151 to R154) -/

/-- One program's on-state on a channel changed. -/
def Channel.setOnState (ch : Channel) (p : ProgId) (b : Bool) : Channel :=
  { ch with onStates := ch.onStates.upd p (fun _ => b) }

/-- A program joins the waiting list at its tail, or keeps its place (R151). -/
def Channel.join (ch : Channel) (p : ProgId) (frame : Nat) : Channel :=
  if ch.waiting.any (fun w => w.1 == p) then ch else { ch with waiting := ch.waiting ++ [(p, frame)] }

/-- p preempts q on a channel (R152). -/
def Part.preempt (s : Part) (p q : ProgId) (c : ChanId) : Part :=
  let lost := (s.channel c).queue.filter (fun k => k.program == q)
  let s1 := s.forEach lost (fun k t => t.report q k.posting .preempted)
  let s2 := s1.raise .preempted { program := some q, channel := some (chanNo c) }
  s2.onChannel c (fun ch =>
    { ch.setOnState q false with
      queue := ch.queue.filter (fun k => k.program != q)
      claim := .held p
      returnReq := none
      waiting := ch.waiting.filter (fun w => w.1 != p) ++ [(q, s.clock.frame)] })

/-- A claim request of a program on a non-shareable channel (R151). -/
def Part.claimRequest (s : Part) (p : ProgId) (c : ChanId) : Part :=
  let ch := s.channel c
  match ch.claim with
  | .free => s.onChannel c (fun ch => { ch with claim := .held p })
  | .held q =>
    if q = p then s
    else if s.priority q < s.priority p ∧ (s.airingSet q).contains c = false then s.preempt p q c
    else s.onChannel c (fun ch => ch.join p s.clock.frame)
  | .releasing q =>
    if q = p then
      if ch.release.isSome then s.onChannel c (fun ch => { ch with claim := .held p, release := none })
      else s.onChannel c (fun ch => { ch with returnReq := some (ch.returnReq.getD s.clock.frame) })
    else s.onChannel c (fun ch => ch.join p s.clock.frame)

/-- The release CLEAR of a claim (R153). -/
def releaseClear (p : ProgId) (frame : Nat) : QCommand :=
  { program := p, action := .clear, param := 0, asset := 0, posting := none, tag := 0, frame := frame }

/-- A release request; on a channel not HELD by the program it changes nothing (R153). -/
def Part.releaseRequest (s : Part) (p : ProgId) (c : ChanId) : Part :=
  if (s.channel c).claim = .held p then
    s.onChannel c (fun ch => { ch with claim := .releasing p, release := some (releaseClear p s.clock.frame) })
  else s

/-- Of two requests, the later one in the arbiter's list wins only by a higher priority, or at the same priority by
a greater age (R154). -/
def Part.arbiterPick (s : Part) (best w : ProgId × Nat) : ProgId × Nat :=
  if s.priority best.1 < s.priority w.1 then w
  else if s.priority best.1 = s.priority w.1 ∧ since s.clock.frame best.2 < since s.clock.frame w.2 then w
  else best

/-- The grant arbiter's choice among requests in order (R154). -/
def Part.arbiterChoice (s : Part) : List (ProgId × Nat) → Option (ProgId × Nat)
  | [] => none
  | w :: rest => some (rest.foldl s.arbiterPick w)

/-- A claim that had been p's passes to the arbiter's choice, or becomes FREE (R154). -/
def Part.passClaim (s : Part) (p : ProgId) (c : ChanId) : Part :=
  let ch := s.channel c
  let left := ch.waiting.filter (fun w => s.needs w.1 c)
  let back := if s.needs p c then (ch.returnReq.map (fun f => (p, f))).toList else []
  let claim := match s.arbiterChoice (left ++ back) with
    | some w => Claim.held w.1
    | none => Claim.free
  s.onChannel c (fun ch =>
    { ch.setOnState p false with
      claim := claim
      waiting := left.filter (fun w => claim.program != some w.1)
      returnReq := none
      release := none })

/-- The release CLEAR of a RELEASING claim is settled: it has left the release place and is not a current command
AWAITING. -/
def Channel.releaseSettled (ch : Channel) : Bool :=
  ch.release.isNone && !(ch.current.isRelease && ch.current.standing == .awaiting)

/-- A RELEASING claim whose release CLEAR is settled passes (R154). -/
def Part.claimPass (s : Part) (c : ChanId) : Part :=
  match (s.channel c).claim with
  | .releasing p => if (s.channel c).releaseSettled then s.passClaim p c else s
  | .free | .held _ => s

/-! ### Posts and the queue (R155, R156) -/

/-- The Channel Table's answer to a post (R126, R155). -/
inductive PostAnswer
  | queued | noClaim | queueFull
deriving DecidableEq, Repr

/-- Most commands a channel queue holds (R156). -/
def queueMax : Nat := 8

/-- A post to a channel is taken: it is shareable, or HELD by the posting program (R155). -/
def Channel.takesPost (ch : Channel) (p : ProgId) : Bool := ch.shareable || ch.claim == .held p

/-- The answer to a post (R155). -/
def Channel.answerPost (ch : Channel) (p : ProgId) : PostAnswer :=
  if ch.takesPost p then (if ch.queue.length < queueMax then .queued else .queueFull) else .noClaim

/-- A post to the Channel Table (R155). -/
def Part.postChannel (s : Part) (c : ChanId) (k : QCommand) : Part × PostAnswer :=
  match (s.channel c).answerPost k.program with
  | .queued => (s.onChannel c (fun ch => { ch with queue := ch.queue ++ [k] }), .queued)
  | a => (s, a)

/-! ### A channel at a frame start (R157) -/

/-- The channel is idle (R145). -/
def Channel.idle (ch : Channel) : Bool :=
  ch.claim == .free && ch.waiting.isEmpty && ch.queue.isEmpty && ch.release.isNone
    && ch.current.standing != .awaiting && !ch.onStates.toList.any id

/-- A configuration differs from the one in effect in kind, slot, device node or shareable flag (R145). -/
def fullChange (g n : ChanConfig) : Bool :=
  g.kind != n.kind || g.slot != n.slot || g.node != n.node || g.shareable != n.shareable

/-- The consequences of a configuration taking effect by a full change or from UNCONFIGURED (R146). Whether the frame
that has just ended brought a matched reply stays for the look back that follows (R149, R157). R146 gives no ack count;
the model sets it to 0, the rest command being ACKED (DESIGN CHOICE, assumption log 45). -/
def Channel.takeConfig (ch : Channel) (n : ChanConfig) : Channel :=
  { ch with config := some n, pending := none, keptSlot := 0, health := .silent, silence := 0,
            report := none, current := Current.rest, ackCount := 0 }

/-- The first configuration of an UNCONFIGURED channel is shareable: the claim and all that hangs on it go (R146). -/
def Channel.dropClaim (ch : Channel) : Channel :=
  let ch1 := match ch.claim.program with
    | some p => ch.setOnState p false
    | none => ch
  { ch1 with claim := .free, waiting := [], returnReq := none, release := none }

/-- A channel with its pending configuration put into effect, or discarded (R146). -/
def Channel.configTakesEffect (ch : Channel) : Channel :=
  match ch.pending with
  | none => ch
  | some n =>
    match ch.config with
    | none => (if n.shareable then ch.dropClaim else ch).takeConfig n
    | some g =>
      if fullChange g n then (if ch.idle then ch.takeConfig n else { ch with pending := none })
      else { ch with config := some { g with ackWindow := n.ackWindow, rollGrace := n.rollGrace,
                                             staleLimit := n.staleLimit }, pending := none }

/-- A channel becomes SILENT, with its notice (R149). -/
def Part.goSilent (s : Part) (c : ChanId) : Part :=
  (s.onChannel c (fun ch => { ch with health := .silent })).raise .channelSilent { channel := some (chanNo c) }

/-- The silence count that makes a channel SILENT (R149). -/
def silenceMax : Nat := 25

/-- The silence count's look back on a frame that was LOCKED (R149). -/
def Part.countSilence (s : Part) (c : ChanId) : Part :=
  let ch := s.channel c
  if ch.config.isSome ∧ ch.replied = false ∧ ch.silence < silenceMax then
    let s1 := s.onChannel c (fun ch => { ch with silence := ch.silence + 1 })
    if ch.silence + 1 = silenceMax then s1.goSilent c else s1
  else s

/-- An ONLINE channel whose silence count has reached 25 becomes SILENT (R149). -/
def Part.silentEvent (s : Part) (c : ChanId) : Part :=
  let ch := s.channel c
  if ch.config.isSome = true ∧ ch.health = .online ∧ ch.silence = silenceMax then s.goSilent c else s

/-- The ack count's look back on a frame that was LOCKED and not the issue frame (R159). -/
def Channel.countAck (ch : Channel) (frame : Nat) : Channel :=
  if ch.current.standing = .awaiting ∧ ch.current.issueFrame.map (fun f => wrap32 (f + 1)) ≠ some frame then
    { ch with ackCount := ch.ackCount + 1 }
  else ch

/-- The ack count has reached the ack window with the command still AWAITING (R159). That a window which a change lowers
to the very count already reached ends the wait at that frame start, though no count is raised at it, is the model's
choice (R146, assumption log 50). -/
def Channel.ackOverdue (ch : Channel) : Bool :=
  match ch.config with
  | some g => ch.current.standing == .awaiting && g.ackWindow ≤ ch.ackCount
  | none => false

/-- An overdue current command becomes NO_ACK (R159, R162). -/
def Part.noAck (s : Part) (c : ChanId) : Part :=
  let cur := (s.channel c).current
  if (s.channel c).ackOverdue then
    match cur.program with
    | none => s.onChannel c (fun ch => { ch with current := { ch.current with standing := .noAck } })
    | some p =>
      let s1 := s.onChannel c (fun ch =>
        let ch1 := { ch with current := { ch.current with standing := .noAck } }
        if cur.setOn then ch1.setOnState p false else ch1)
      let s2 := if cur.voided then s1 else s1.report p cur.posting .noAck
      let s3 := s2.raise .noAck (cueSubject p cur.tag c)
      if cur.isRelease then s3.claimPass c else s3
  else s

/-- Step 2 of R157: the look back on the frame that has just ended. -/
def Part.lookBack (s : Part) (c : ChanId) : Part :=
  let s1 := if s.port.endedLocked then
      (s.countSilence c).onChannel c (fun ch => ch.countAck s.clock.frame)
    else s
  (s1.noAck c).onChannel c (fun ch => { ch with replied := false })

/-- The stale limit in effect, none for never (R160). -/
def Channel.staleAfter (ch : Channel) : Option Nat :=
  match ch.config with
  | some g => some g.staleLimit
  | none => Config.unconfiguredStaleLimit

/-- A waiting command's age exceeds a limit (R160). -/
def isStale (limit : Option Nat) (frame : Nat) (k : QCommand) : Bool :=
  match limit with
  | some n => n < since frame k.frame
  | none => false

/-- What a stale command's removal reports and raises (R160). -/
def Part.staleOut (s : Part) (c : ChanId) (k : QCommand) : Part :=
  (s.report k.program k.posting .stale).raise .stale (cueSubject k.program k.tag c)

/-- Step 3 of R157: stale commands leave the queue, then the release place, whose claim passes (R160). -/
def Part.removeStale (s : Part) (c : ChanId) : Part :=
  let ch := s.channel c
  let limit := ch.staleAfter
  let old := fun k => isStale limit s.clock.frame k
  let s1 := s.onChannel c (fun ch => { ch with queue := ch.queue.filter (fun k => !old k) })
  let s2 := s1.forEach (ch.queue.filter old) (fun k t => t.staleOut c k)
  match ch.release with
  | some k =>
    if old k then ((s2.onChannel c (fun ch => { ch with release := none })).staleOut c k).claimPass c else s2
  | none => s2

/-- The conditions of R158 but for a command to issue, in a LOCKED frame that its frame start began as one; the channel
has not issued in this frame. That the frame is known as the issue frame by its 32-bit count is the model's choice
(assumption log 51). -/
def Part.mayIssue (s : Part) (c : ChanId) : Bool :=
  let ch := s.channel c
  s.port.lockedFrame && s.port.beganLocked && ch.config.isSome && ch.health == .online && ch.slot != 0
    && ch.current.standing != .awaiting && ch.current.issueFrame != some s.clock.frame

/-- The current command an issued command becomes (R158). -/
def QCommand.issued (k : QCommand) (serial frame : Nat) (isRelease : Bool) : Current :=
  { serial := (serial + 1) % 256, program := some k.program, action := k.action, param := k.param, asset := k.asset,
    posting := k.posting, tag := k.tag, issueFrame := some frame, standing := .awaiting, isRelease := isRelease,
    carried := false, setOn := false, voided := false }

/-- Step 4 of R157: the queue head, or the release CLEAR behind an empty queue, is issued (R158). -/
def Part.issue (s : Part) (c : ChanId) : Part :=
  if s.mayIssue c then
    match (s.channel c).queue, (s.channel c).release with
    | k :: rest, _ =>
      (s.onChannel c (fun ch =>
        { ch with queue := rest, current := k.issued ch.current.serial s.clock.frame false, ackCount := 0 })).report
          k.program k.posting .issued
    | [], some k =>
      s.onChannel c (fun ch =>
        { ch with release := none, current := k.issued ch.current.serial s.clock.frame true, ackCount := 0 })
    | [], none => s
  else s

/-- Step 1 of R157 on every channel: pending configurations take effect (R146). -/
def Part.configsTakeEffect (s : Part) : Part := { s with channels := s.channels.map Channel.configTakesEffect }

/-- Steps 2 to 4 of the Channel Table's work for one channel at a frame start (R157). -/
def Part.channelFrameStart (s : Part) (c : ChanId) : Part := ((s.lookBack c).removeStale c).issue c

/-! ### Trigger cells and replies (R147, R148, R159, R161, R162) -/

/-- What the first carrying of the current command does to its program's on-state (R162). The program holds the
channel while its claim is HELD or RELEASING (R155). -/
def Channel.carry (ch : Channel) : Channel :=
  if ch.current.carried then ch
  else
    let ch1 := { ch with current := { ch.current with carried := true } }
    match ch.current.program with
    | none => ch1
    | some p =>
      if ch.current.action.isOn = true ∧ ch.current.voided = false ∧
          (ch.shareable = true ∨ ch.claim.program = some p) then
        { ch1.setOnState p true with current := { ch1.current with setOn := true } }
      else if ch.current.action.isOff then ch1.setOnState p false
      else ch1

/-- A device reply's fields (R148, R190). -/
structure DeviceReply where
  source  : Nat
  channel : Nat
  report  : Report
deriving DecidableEq, Repr

/-- The channel a reply belongs to (R148). -/
def Part.replyChannel (s : Part) (d : DeviceReply) : Option ChanId :=
  match chanOf d.channel with
  | none => none
  | some c => if (s.channel c).config.map ChanConfig.node = some d.source then some c else none

/-- A matched reply is recorded (R148). -/
def Channel.record (ch : Channel) (r : Report) : Channel :=
  { ch with report := some r, health := .online, silence := 0, replied := true }

/-- A reply acknowledges the current command when it is AWAITING and the serials agree (R159). -/
def Part.acknowledge (s : Part) (c : ChanId) (serial : Nat) : Part :=
  let cur := (s.channel c).current
  if cur.standing = .awaiting ∧ cur.serial = serial then
    let s1 := s.onChannel c (fun ch => { ch with current := { ch.current with standing := .acked } })
    match cur.program with
    | none => s1
    | some p =>
      let s2 := if cur.voided then s1 else s1.report p cur.posting .acked
      if cur.isRelease then s2.claimPass c else s2
  else s

/-- A device reply is matched, recorded and tested for acknowledgement (R148, R159). -/
def Part.deviceReply (s : Part) (d : DeviceReply) : Part :=
  match s.replyChannel d with
  | none => s
  | some c => (s.onChannel c (fun ch => ch.record d.report)).acknowledge c d.report.acked

/-! ### CONFIGURE_CHANNEL (R145) -/

/-- The position of the first parameter out of its range (R145). -/
def badChanParam (node channel kind slot dev shareable ack grace stale : Nat) : Option Nat :=
  if channel = 0 ∨ channel > 24 then some 1
  else if kind > 5 then some 2
  else if slot > 47 then some 3
  else if dev = 0 ∨ dev ≥ 63 ∨ dev = node then some 4
  else if shareable > 1 then some 5
  else if ack = 0 ∨ ack > 50 then some 6
  else if grace > 250 then some 7
  else if stale = 0 ∨ stale > 250 then some 8
  else none

/-- The status and reply slots in effect and accepted (R13, R145). -/
def Part.portSlots (s : Part) : List Nat :=
  let of := fun (m : SlotSet) => m.status :: m.replies
  of s.port.slots ++ (match s.port.pendingSlots with | some m => of m | none => [])

/-- The slots of channels, in effect and accepted, all channels but one (R145). -/
def Part.otherChannelSlots (s : Part) (c : ChanId) : List Nat :=
  (allChannels.filter (fun d => d != c)).flatMap (fun d => (s.channel d).claimedSlots)

/-- The slots of all channels, in effect and accepted (R13). -/
def Part.channelSlots (s : Part) : List Nat := allChannels.flatMap (fun d => (s.channel d).claimedSlots)

/-- CONFIGURE_CHANNEL (R145). -/
def cmdConfigureChannel (channel kind slot dev shareable ack grace stale : Byte) (s : Part) : Part × Reply :=
  match badChanParam s.port.node channel.toNat kind.toNat slot.toNat dev.toNat shareable.toNat ack.toNat
      grace.toNat stale.toNat with
  | some i => (s, Reply.badParam i)
  | none =>
    match chanOf channel.toNat, ChanKind.ofCode kind.toNat with
    | some c, some k =>
      let n : ChanConfig :=
        { kind := k, slot := slot.toNat, node := dev.toNat, shareable := shareable.toNat == 1,
          ackWindow := ack.toNat, rollGrace := grace.toNat, staleLimit := stale.toNat }
      if n.slot ≠ 0 ∧ (s.portSlots.contains n.slot = true ∨ (s.otherChannelSlots c).contains n.slot = true) then
        (s, Reply.refuse .range 20 (be1 n.slot))
      else
        let busy := match (s.channel c).config with
          | some g => fullChange g n && !(s.channel c).idle
          | none => false
        if busy then (s, Reply.refuse .busy 21 [])
        else (s.onChannel c (fun ch => { ch with pending := some n, keptNext := none }), Reply.done [])
    | _, _ => (s, Reply.badParam 1)

/-! ### Resets -/

/-- A channel after RESET_NODE: its slot stays in the owned-slot map, and a pending configuration's slot waits for
the next frame start (R21, R163). -/
def Channel.resetNode (ch : Channel) : Channel :=
  { Channel.reset with
    keptSlot := ch.slot
    keptNext := match ch.pending with
      | some n => some n.slot
      | none => ch.keptNext }

/-- A channel loses a program at PROGRAM_RESET, short of passing a claim: its queued commands, its place in the
waiting list, its on-states and the outcome of its current command go (R105, R163). -/
def Channel.purge (ch : Channel) (p : ProgId) : Channel :=
  { ch.setOnState p false with
    queue := ch.queue.filter (fun k => k.program != p)
    waiting := ch.waiting.filter (fun w => w.1 != p)
    current := if ch.current.program = some p then { ch.current with voided := true, isRelease := false }
               else ch.current }

/-- A claim HELD or RELEASING for a program passes at once at PROGRAM_RESET (R105, R154). -/
def Part.dropClaim (s : Part) (p : ProgId) (c : ChanId) : Part :=
  if (s.channel c).claim.program = some p then
    (s.onChannel c (fun ch => { ch with returnReq := none, release := none })).passClaim p c
  else s

/-- A program leaves a channel's waiting list (R154). -/
def Channel.leaveWaiting (ch : Channel) (p : ProgId) : Channel :=
  { ch with waiting := ch.waiting.filter (fun w => w.1 != p) }

end Sys2Proof.Machine
end

