-- ==== Sys2Proof/Machine/Firing.lean ====
section
/-! DEFINITION. Event Firing (chapter 7): event status tables, posts, the gate of clip rolls, the rehearsal echo. -/

namespace Sys2Proof.Machine

/-! ### Tables and rows (R127) -/

/-- One of a program's two tables. -/
def Firing.table (f : Firing) : TableKind → Table
  | .onAir => f.onAir
  | .next => f.next

/-- One of a program's two tables changed. -/
def Firing.onTable (f : Firing) (t : TableKind) (g : Table → Table) : Firing :=
  match t with
  | .onAir => { f with onAir := g f.onAir }
  | .next => { f with next := g f.next }

/-- A row of a program's table. -/
def Part.row? (s : Part) (p : ProgId) (t : TableKind) (i : Nat) : Option Row := ((s.firing p).table t).rows[i]?

/-- A row of a program's table changed. -/
def Part.onRow (s : Part) (p : ProgId) (t : TableKind) (i : Nat) (g : Row → Row) : Part :=
  s.onFiring p (fun f => f.onTable t (fun tb => { tb with rows := tb.rows.modify i g }))

/-- The row indices of a program's table, in row order. -/
def Part.rowRange (s : Part) (p : ProgId) (t : TableKind) : List Nat :=
  List.range ((s.firing p).table t).rows.length

/-- A table filled from a story for an entry, every row WAITING (R127). -/
def Record.tableFor (r : Record) (tag : Nat) : Table := { tag := tag, prompter := r.prompterId, rows := r.rows }

/-- The program plays against its rehearsal echo (R139). -/
def Part.rehearsing (s : Part) (p : ProgId) : Bool := (s.runner p).mode == .rehearsal

/-! ### Posts (R125, R126, R139) -/

/-- Most commands a rehearsal echo holds (R139). -/
def echoMax : Nat := 64

/-- A post to a program's rehearsal echo (R139). -/
def Part.postEcho (s : Part) (p : ProgId) (c : ChanId) (a : Action) (posting : Option Nat) : Part × PostAnswer :=
  if (s.firing p).echo.length < echoMax then
    (s.onFiring p (fun f =>
      { f with echo := f.echo ++ [{ channel := c, action := a, posting := posting, issued := false }] }), .queued)
  else (s, .queueFull)

/-- A command handed to the echo in REHEARSAL, to the Channel Table otherwise (R126, R139). -/
def Part.post (s : Part) (c : ChanId) (k : QCommand) : Part × PostAnswer :=
  if s.rehearsing k.program then s.postEcho k.program c k.action k.posting else s.postChannel c k

/-- The asset a row's command carries (R125). -/
def Part.assetFor (s : Part) (prompter : Nat) (r : Row) : Nat :=
  if r.asset = 0 ∧ (s.channel r.channel).config.map ChanConfig.kind = some .prompter then prompter else r.asset

/-- The outcome a post's answer records (R126). -/
def PostAnswer.outcome : PostAnswer → RowOutcome
  | .queued => .posted
  | .noClaim => .noClaim
  | .queueFull => .queueFull

/-- The notice a refused post of a row raises (R126). -/
def Part.raiseRefusal (s : Part) (p : ProgId) (tag : Nat) (c : ChanId) : PostAnswer → Part
  | .queued => s
  | .noClaim => s.raise .noClaim (cueSubject p tag c)
  | .queueFull => s.raise .queueFull (cueSubject p tag c)

/-- Post a row's command: it takes the program's posting number, and the row records the number and the answer
(R126). -/
def Part.postRow (s : Part) (p : ProgId) (t : TableKind) (i : Nat) : Part :=
  match s.row? p t i with
  | none => s
  | some r =>
    let tb := (s.firing p).table t
    let n := (s.firing p).posting
    let k : QCommand :=
      { program := p, action := r.action, param := r.param, asset := s.assetFor tb.prompter r, posting := some n,
        tag := tb.tag, frame := s.clock.frame }
    let s1 := s.onFiring p (fun f => { f with posting := (n + 1) % 65536 })
    let a := s1.post r.channel k
    let s2 := a.1.onRow p t i (fun r => { r with outcome := a.2.outcome, posting := some n, held := none })
    s2.raiseRefusal p tb.tag r.channel a.2

/-- A CLEAR that comes from no row, of a leave-NEXT or at the echo. The Channel Table's refusal is dropped without a
notice (R126, R130). The parameter 0 and the asset 0 it carries, on a PROMPTER channel too, are the model's choice
(assumption log 47), and so is that a refusal by a full echo is dropped in the same way (R139, assumption log 48). -/
def Part.postClear (s : Part) (p : ProgId) (c : ChanId) : Part :=
  (s.post c { releaseClear p s.clock.frame with tag := 0 }).1

/-! ### The gate of clip rolls (R136, R137) -/

/-- A channel is ready for a ROLL (R136). -/
def Channel.ready (ch : Channel) : Bool :=
  ch.health == .online && ch.report.map Report.status == some .ready

/-- A ROLL to the channel passes through the gate: a CLIP channel or an UNCONFIGURED one (R136). -/
def Channel.gated (ch : Channel) : Bool :=
  match ch.config with
  | some g => g.kind == .clip
  | none => true

/-- The roll grace in effect, 0 for an UNCONFIGURED channel (R136). -/
def Channel.grace (ch : Channel) : Nat :=
  match ch.config with
  | some g => g.rollGrace
  | none => 0

/-- The gate would hold the row's command or give it up (R136, R137). A held ROLL whose channel has meanwhile taken a kind
other than CLIP is not stopped, so it is posted at its next test: the model's choice (assumption log 49). -/
def Part.gateCloses (s : Part) (p : ProgId) (r : Row) : Bool :=
  !s.rehearsing p && r.action == .roll && (s.channel r.channel).gated && !(s.channel r.channel).ready

/-- A ROLL is given up: the row becomes NOT_READY, with the notice (R137). A MANUAL ROLL fired again still shows the
posting number of its latest post (R127, the model's reading, assumption log 30); that post's outcome is discarded
(R133). -/
def Part.giveUpRow (s : Part) (p : ProgId) (t : TableKind) (i : Nat) (r : Row) : Part :=
  (s.onRow p t i (fun r => { r with outcome := .notReady, held := none })).raise .notReady
    (cueSubject p ((s.firing p).table t).tag r.channel)

/-- Post a row through the gate (R137). -/
def Part.fireRow (s : Part) (p : ProgId) (t : TableKind) (i : Nat) : Part :=
  match s.row? p t i with
  | none => s
  | some r =>
    if s.gateCloses p r then
      if (s.channel r.channel).grace = 0 then s.giveUpRow p t i r
      else s.onRow p t i (fun r => { r with outcome := .posted, held := some 0, heldAt := s.clock.frame })
    else s.postRow p t i

/-- A held ROLL whose channel is ready is posted (R137). -/
def Part.rollOnReady (s : Part) (p : ProgId) (t : TableKind) (i : Nat) : Part :=
  match s.row? p t i with
  | none => s
  | some r => if r.held.isSome ∧ s.gateCloses p r = false then s.postRow p t i else s

/-- A held ROLL whose count has reached the grace in effect, its channel not ready, is given up (R137). -/
def Part.rollNotReady (s : Part) (p : ProgId) (t : TableKind) (i : Nat) : Part :=
  match s.row? p t i with
  | none => s
  | some r =>
    match r.held with
    | none => s
    | some n =>
      if s.gateCloses p r = true ∧ (s.channel r.channel).grace ≤ n then s.giveUpRow p t i r else s

/-- The frame-start test of a held ROLL: posted when ready, else counted and perhaps given up. A ROLL held in this very
frame is tested first at the next frame start (R137). -/
def Part.testHeld (s : Part) (p : ProgId) (t : TableKind) (i : Nat) : Part :=
  match s.row? p t i with
  | none => s
  | some r =>
    if r.held.isNone ∨ r.heldAt = s.clock.frame then s
    else if s.gateCloses p r then
      (s.onRow p t i (fun r => { r with held := r.held.map (· + 1) })).rollNotReady p t i
    else s.rollOnReady p t i

/-! ### Due points (R128, R129, R131) -/

/-- The row's anchor is FROM_TAKE or FROM_END. -/
def Row.timed (r : Row) : Bool := r.anchor == .fromTake || r.anchor == .fromEnd

/-- A row with its due elapsed reckoned from a planned duration (R128). -/
def Row.withDue (planned : Nat) (r : Row) : Row :=
  match r.anchor with
  | .fromTake => { r with due := some r.offset }
  | .fromEnd => { r with due := some (planned - r.offset) }
  | .onNext | .manual => { r with due := none }

/-- A table with its due elapsed values reckoned. -/
def Table.withDues (t : Table) (planned : Nat) : Table := { t with rows := t.rows.map (Row.withDue planned) }

/-- The due elapsed of a FROM_END row reckoned again (R128). -/
def Row.reckonEnd (planned : Nat) (r : Row) : Row :=
  if r.anchor = .fromEnd then { r with due := some (planned - r.offset) } else r

/-- The FROM_END rows of a program's ON_AIR table reckoned again from a planned duration (R128). -/
def Part.reckonRows (s : Part) (p : ProgId) (planned : Nat) : Part :=
  s.onFiring p (fun f => f.onTable .onAir (fun tb => { tb with rows := tb.rows.map (Row.reckonEnd planned) }))

/-- A WAITING timed row is due at an elapsed (R129). -/
def Row.dueAt (r : Row) (elapsed : Nat) : Bool :=
  r.timed && r.outcome == .waiting &&
    (match r.due with
     | some d => d ≤ elapsed
     | none => false)

/-- A due row of the ON_AIR table is posted, when the program's elapsed is counting (step 4 of R129). -/
def Part.postDue (s : Part) (p : ProgId) (i : Nat) : Part :=
  match s.row? p .onAir i, s.elapsed p with
  | some r, some e => if s.elapsedRuns p ∧ r.dueAt e = true then s.fireRow p .onAir i else s
  | _, _ => s

/-- At a take the rows of due elapsed 0 are posted at once (R131). -/
def Part.postAtTake (s : Part) (p : ProgId) : Part :=
  s.forEach (s.rowRange p .onAir) (fun i t =>
    match t.row? p .onAir i with
    | some r => if r.dueAt 0 then t.fireRow p .onAir i else t
    | none => t)

/-! ### The end of an airing (R132) -/

/-- Step 1 of R132 for one row: a row due by the final elapsed goes out; a ROLL the gate would stop is SKIPPED. -/
def Part.settleDue (s : Part) (p : ProgId) (final i : Nat) : Part :=
  match s.row? p .onAir i with
  | none => s
  | some r =>
    if r.dueAt final then
      if s.gateCloses p r then s.onRow p .onAir i (fun r => { r with outcome := .skipped })
      else s.postRow p .onAir i
    else s

/-- Steps 2 and 3 of R132 for one row; a held ROLL that is SKIPPED still shows the posting number of its latest post
(assumption log 30), whose outcome is discarded (R133). -/
def Row.settled (r : Row) : Row :=
  if r.held.isSome then { r with outcome := .skipped, held := none }
  else if r.outcome = .waiting ∧ r.anchor ≠ .manual then { r with outcome := .skipped }
  else r

/-- The ON_AIR table is settled at the end of an airing (R132). -/
def Part.settleTable (s : Part) (p : ProgId) (final : Nat) : Part :=
  (s.forEach (s.rowRange p .onAir) (fun i t => t.settleDue p final i)).onFiring p
    (fun f => f.onTable .onAir (fun tb => { tb with rows := tb.rows.map Row.settled }))

/-! ### Becoming and leaving NEXT (R130, R140) -/

/-- The NEXT table is filled and its ON_NEXT rows posted, unless the preroll is given up (R130). -/
def Part.postOnNext (s : Part) (p : ProgId) : Part :=
  if (s.runner p).givenUp then s
  else s.forEach (s.rowRange p .next) (fun i t =>
    match t.row? p .next i with
    | some r => if r.anchor = .onNext then t.fireRow p .next i else t
    | none => t)

/-- The row's command went to its channel, as its outcome shows (R130). -/
def Row.sent (r : Row) : Bool :=
  r.held.isNone && (r.outcome == .posted || r.outcome == .issued || r.outcome == .acked || r.outcome == .noAck)

/-- The channels to which ON_NEXT rows of the NEXT table were posted (R97, R130). -/
def Part.prerolled (s : Part) (p : ProgId) : List ChanId :=
  allChannels.filter (fun c =>
    ((s.firing p).table .next).rows.any (fun r => r.anchor == .onNext && r.channel == c && r.sent))

/-- The channels a REHEARSAL program clears at the echo when an entry is done with those it used: the non-shareable
ones that its ON_AIR entry and its NEXT entry after the change use no longer (R140). -/
def Part.echoClearSet (s : Part) (p : ProgId) (used : List ChanId) (next : Option RecId) : List ChanId :=
  allChannels.filter (fun c => used.contains c && !(s.channel c).shareable && !(s.airingSet p).contains c
    && !next.any (fun r => (s.record r).uses c))

/-- The echo CLEARs of R140. -/
def Part.echoClears (s : Part) (p : ProgId) (used : List ChanId) (next : Option RecId) : Part :=
  s.forEach (s.echoClearSet p used next) (fun c t => t.postClear p c)

/-! ### The rehearsal echo at a frame start (R141) -/

/-- What a command that becomes ISSUED does to the echo on-states (R141). -/
def echoOnState (on : Bank Bool 24) (k : EchoCmd) : Bank Bool 24 :=
  if k.action.isOn then on.upd k.channel (fun _ => true)
  else if k.action.isOff then on.upd k.channel (fun _ => false)
  else on

/-- The echo advances: ISSUED commands are ACKED and leave, POSTED ones become ISSUED (R141). -/
def Part.echoAdvance (s : Part) (p : ProgId) : Part :=
  let f := s.firing p
  let gone := f.echo.filter (fun k => k.issued)
  let rising := f.echo.filter (fun k => !k.issued)
  let s1 := s.forEach gone (fun k t => t.report p k.posting .acked)
  let s2 := s1.forEach rising (fun k t => t.report p k.posting .issued)
  s2.onFiring p (fun f =>
    { f with echo := rising.map (fun k => { k with issued := true }), echoOn := rising.foldl echoOnState f.echoOn })

/-- The echo is emptied (R142). -/
def Part.echoEmpty (s : Part) (p : ProgId) : Part :=
  s.onFiring p (fun f => { f with echo := [], echoOn := Vector.replicate 24 false })

/-- Both tables are emptied (R143). -/
def Part.tablesEmpty (s : Part) (p : ProgId) : Part :=
  s.onFiring p (fun f => { f with next := Table.empty, onAir := Table.empty })

/-! ### The rebuild of a table at a relink on air (R134) -/

/-- The row has been posted (R127). -/
def Row.wasPosted (r : Row) : Bool := r.outcome != .waiting && r.outcome != .skipped

/-- A new row matches an old one (R134). -/
def Row.sameCue (new old : Row) : Bool :=
  old.wasPosted && new.anchor == old.anchor && new.channel == old.channel && new.action == old.action
    && new.asset == old.asset && new.offset == old.offset

/-- A matched new row: the old row's outcome, posting number, held count and due elapsed, the new parameter (R134). -/
def Row.takeOver (new old : Row) : Row :=
  { new with outcome := old.outcome, posting := old.posting, held := old.held, heldAt := old.heldAt, due := old.due }

/-- An unmatched new row at an elapsed (R134). -/
def Row.unmatched (new : Row) (elapsed : Nat) : Row :=
  match new.anchor with
  | .fromTake => { new with due := some new.offset, outcome := if new.offset ≤ elapsed then .skipped else .waiting }
  | .fromEnd | .onNext | .manual => new

/-- The new rows in row order against the old ones, some already matched. With each row comes whether it is SKIPPED
by the rebuild. -/
def rebuildRows (old : List Row) (elapsed : Nat) : List Nat → List Row → List (Row × Bool)
  | _, [] => []
  | used, r :: rest =>
    let hit := (List.range old.length).find? (fun j =>
      !used.contains j && (match old[j]? with | some o => r.sameCue o | none => false))
    match hit.bind (fun j => old[j]?.map (fun o => (j, o))) with
    | some (j, o) => (r.takeOver o, false) :: rebuildRows old elapsed (j :: used) rest
    | none =>
      (r.unmatched elapsed, decide ((r.unmatched elapsed).outcome = .skipped)) :: rebuildRows old elapsed used rest

/-- The ON_AIR table is rebuilt from a new story, with the SKIPPED notices (R134). -/
def Part.rebuildTable (s : Part) (p : ProgId) (r : Record) (elapsed : Nat) : Part :=
  let tb := (s.firing p).onAir
  let rows := rebuildRows tb.rows elapsed [] r.rows
  let s1 := s.onFiring p (fun f =>
    { f with onAir := { tag := tb.tag, prompter := r.prompterId, rows := rows.map Prod.fst } })
  s1.forEach (rows.filter Prod.snd) (fun x t => t.raise .skipped (cueSubject p tb.tag x.1.channel))

end Sys2Proof.Machine
end

