-- ==== Sys2Proof/Machine/Durations.lean ====
section
/-! DEFINITION. Planned durations, observed reports and remaining time (R91, R109, R111). -/

namespace Sys2Proof.Machine

/-- The estimate of R109: words at a read rate in eighths of a word per second, rounded up, and the pad. -/
def estimate (r : Rate) (words readRate pad : Nat) : Nat :=
  (words * 8 * rateNum r + readRate * rateDen r - 1) / (readRate * rateDen r) + pad

/-- The planned duration P of a story, from the stories, presenter settings and rate as they stand (R109). -/
def Part.planned (s : Part) (r : RecId) : Nat :=
  let x := s.record r
  let rate := s.clock.rate
  if x.planned ≠ 0 then min x.planned (pMax rate)
  else match x.presenter? with
    | some k => min (estimate rate x.words (s.presenter k).settings.readRate x.pad) (pMax rate)
    | none => min x.pad (pMax rate)

/-- The FROM_END rows of a program's ON_AIR table reckoned from the P of its ON_AIR entry as it stands (R87, R128). -/
def Part.reckonAiring (s : Part) (p : ProgId) : Part :=
  match s.onAirEntry p with
  | none => s
  | some e => s.reckonRows p (s.planned e.record)

/-- The planned duration of an entry as the Timing Unit last handed it on, for a take between two frame starts; one the
last frame start did not reckon is reckoned from its story (R128, assumption log 7). The pending row is found by its tag,
so an entry made since under a tag that a removed entry had takes that entry's P: the model's choice (R121, assumption
log 7). -/
def Part.handedP (s : Part) (p : ProgId) (e : Entry) : Nat :=
  match (s.timing p).rows.find? (fun w => w.tag == e.tag) with
  | some w => w.p
  | none => s.planned e.record

/-- The timing channel's report as a program observes it (R91). -/
def Part.observed (s : Part) (p : ProgId) (r : RecId) : Option Report :=
  match (s.record r).timing? with
  | none => none
  | some c =>
    let ch := s.channel c
    if (s.runner p).mode = .live ∧ ch.health = .online ∧ (ch.claim = .held p ∨ ch.shareable = true) then ch.report
    else none

/-- The remaining time of the ON_AIR entry (R111). -/
def Part.remaining (s : Part) (p : ProgId) (e : Entry) : Int :=
  let rate := s.clock.rate
  let byPlan : Int := max ((s.planned e.record : Int) - ((s.elapsed p).getD 0 : Nat)) (-(halfDay rate : Int))
  match s.observed p e.record with
  | some rep =>
    match rep.status, rep.remaining with
    | .running, some n => (min n (pMax rate) : Nat)
    | _, _ => byPlan
  | none => byPlan

/-- The automatic-end test of R91 for the ON_AIR entry. -/
def Part.endDue (s : Part) (p : ProgId) (e : Entry) : Bool :=
  let overrun := decide (s.planned e.record ≤ (s.elapsed p).getD 0)
  match (s.record e.record).endRule with
  | .manual => false
  | .autoTimed => overrun
  | .autoChannel =>
    if (s.runner p).runSeen then (s.observed p e.record).map Report.status == some .idle
    else overrun

end Sys2Proof.Machine
end

