-- ==== Sys2Proof/Machine/Selection.lean ====
section
/-! DEFINITION. Next selection, and the effects of leaving and becoming NEXT (R76 to R80, R97, R113, R130, R140). -/

namespace Sys2Proof.Machine

/-- The entries after the take mark, or the whole list when the mark is none (R77). -/
def Rundown.afterMark (r : Rundown) : List Entry :=
  match r.mark with
  | none => r.entries
  | some m => (r.entries.dropWhile (fun e => e.tag != m)).tail

/-- The entry waits to be aired: PENDING, or NEXT without a pin. -/
def Entry.waits (e : Entry) : Bool := e.state == .pending || e.state == .next

/-- The choice of steps 3 and 4 of R77. -/
def Rundown.candidate (r : Rundown) : Option Entry := r.afterMark.find? Entry.waits

/-- The program is PARK_PENDING or PARKED. -/
def parking (st : ProgState) : Bool := st == .parkPending || st == .parked

/-- The NEXT entry that next selection chooses (R77). -/
def Part.chosen (s : Part) (p : ProgId) : Option Entry :=
  if (s.runner p).pinned then s.nextEntry p
  else if parking (s.runner p).state then none
  else (s.rundown p).candidate

/-- The channels a program holds that its ON_AIR entry does not use (R97, R150). -/
def Part.heldForNext (s : Part) (p : ProgId) : List ChanId :=
  allChannels.filter (fun c => (s.channel c).claim == .held p && !(s.airingSet p).contains c)

/-- A release request on each channel HELD by the program that it no longer needs (R88, R92, R98, R153). -/
def Part.releaseUnneeded (s : Part) (p : ProgId) : Part :=
  s.forEach allChannels (fun c t =>
    if (t.channel c).claim = .held p ∧ t.needs p c = false then t.releaseRequest p c else t)

/-- The leave-NEXT effects of an entry with a story; `incoming` is the story of the entry that follows it as NEXT
(R97, R130, R140). -/
def Part.leaveEffects (s : Part) (p : ProgId) (story : RecId) (incoming : Option RecId) : Part :=
  let sent := s.prerolled p
  let done :=
    if s.rehearsing p then
      let more := s.echoClearSet p (s.usedExclusive story) incoming
      s.forEach (allChannels.filter (fun c => sent.contains c || more.contains c)) (fun c t => t.postClear p c)
    else
      let releasing := s.heldForNext p
      let s1 := s.forEach (sent.filter (fun c => !releasing.contains c)) (fun c t => t.postClear p c)
      s1.forEach releasing (fun c t => t.releaseRequest p c)
  done.onFiring p (fun f => { f with next := Table.empty })

/-- The become-NEXT effects of an entry: table, claims, then ON_NEXT posts (R97, R130). -/
def Part.becomeEffects (s : Part) (p : ProgId) (tag : Nat) (story : RecId) : Part :=
  let s1 := s.onFiring p (fun f => { f with next := (s.record story).tableFor tag })
  let s2 := s1.forEach (s1.nextSet p) (fun c t => t.claimRequest p c)
  s2.postOnNext p

/-- An entry leaves NEXT for a state, by any event but a take or a relink (R63, R97, R98). -/
def Part.leaveNext (s : Part) (p : ProgId) (e : Entry) (target : EntryState) (incoming : Option RecId) : Part :=
  ((s.onEntry p e.tag (fun x => { x with state := target })).onRunner p (fun r => { r with givenUp := false })).leaveEffects
    p e.record incoming

/-- An entry becomes NEXT (R63, R97, R98). -/
def Part.becomeNext (s : Part) (p : ProgId) (e : Entry) : Part :=
  ((s.onEntry p e.tag (fun x => { x with state := .next })).onRunner p
    (fun r => { r with givenUp := false })).becomeEffects p e.tag e.record

/-- The NEXT entry changes from one entry to another, the first leaving for a state. -/
def Part.changeNext (s : Part) (p : ProgId) (old new : Option Entry) (target : EntryState) : Part :=
  let s1 := match old with
    | some e => s.leaveNext p e target (new.map Entry.record)
    | none => s
  match new with
  | some e => s1.becomeNext p e
  | none => s1

/-- Next selection (R78). -/
def Part.selectNext (s : Part) (p : ProgId) : Part :=
  let old := s.nextEntry p
  let new := s.chosen p
  if old.map Entry.tag = new.map Entry.tag then s else s.changeNext p old new .pending

/-- An entry is made NEXT and pinned, displacing another (R79, R93, R96). -/
def Part.pinNext (s : Part) (p : ProgId) (e : Entry) : Part :=
  let s1 := if (s.nextEntry p).map Entry.tag = some e.tag then s
    else s.changeNext p (s.nextEntry p) (some e) .pending
  s1.onRunner p (fun r => { r with pinned := true })

end Sys2Proof.Machine
end

