-- ==== Sys2Proof/Machine/Running.lean ====
section
/-! DEFINITION. The Program Runners (chapter 5): takes and ends, holds, hard starts, break-ins, parking, modes, and
the runner's work at a frame start. -/

namespace Sys2Proof.Machine

/-! ### Ends and takes (R75, R81, R88, R92, R131, R132) -/

/-- The ON_AIR entry's airing ends: its table is settled, it becomes DONE with its elapsed, and the airing set is
empty (R81, R132, R150). -/
def Part.endAiring (s : Part) (p : ProgId) : Part :=
  match s.onAirEntry p with
  | none => s
  | some e =>
    let final := (s.elapsed p).getD 0
    ((s.settleTable p final).onEntry p e.tag (fun x => { x with state := .done, actual := some final })).onAiring p
      (fun _ => [])

/-- The channels an end or a take leaves unneeded are released, or cleared at the echo; `used` are those the entry
that has gone DONE used (R88, R92, R140). -/
def Part.letGo (s : Part) (p : ProgId) (used : List ChanId) : Part :=
  if s.rehearsing p then s.echoClears p used ((s.nextEntry p).map Entry.record) else s.releaseUnneeded p

/-- The NEXT entry goes on air in its list (R75). -/
def Rundown.taken (l : Rundown) (tag frame : Nat) : Rundown :=
  { l.mapEntry tag (fun e =>
      { e with state := .onAir, takeFrame := some frame, actual := none, airings := min 255 (e.airings + 1) })
    with mark := some tag }

/-- The program record at a take (R88). -/
def Runner.taken (r : Runner) (holdOnTake : Bool) (day : Nat) : Runner :=
  { r with state := if holdOnTake then .held else .running, held := if holdOnTake then some 0 else none,
           correction := 0, runSeen := false, givenUp := false, pinned := false,
           showStart := some (r.showStart.getD day) }

/-- The NEXT table becomes the ON_AIR table, with its due elapsed values (R131). -/
def Firing.taken (f : Firing) (planned : Nat) : Firing :=
  { f with onAir := f.next.withDues planned, next := Table.empty }

/-- The P from which a take gives the FROM_END rows their due elapsed: in a frame start the P of that frame start, by the
stories, settings and rate then in effect; between two the P as last handed on (R87, R109, R121, R128, assumption
log 7). -/
def Part.takeP (s : Part) (p : ProgId) (atStart : Bool) (n : Entry) : Nat :=
  if atStart then s.planned n.record else s.handedP p n

/-- The FROM_END rows of the airing that a take ends stand, in a frame start, on the P of that frame start (R121,
R132). -/
def Part.reckonAt (s : Part) (p : ProgId) (atStart : Bool) : Part := if atStart then s.reckonAiring p else s

/-- A passing take of the NEXT entry (R88), in a frame start or between two; without a NEXT entry nothing changes. -/
def Part.take (s : Part) (p : ProgId) (atStart : Bool) : Part :=
  match s.nextEntry p with
  | none => s
  | some n =>
    let planned := s.takeP p atStart n
    let used := s.airingSet p
    let s1 := ((s.reckonAt p atStart).endAiring p).onRundown p (fun l => l.taken n.tag s.clock.frame)
    let s2 := s1.onRunner p (fun r => r.taken (s.record n.record).holdOnTake s.clock.day)
    let s3 := (s2.onFiring p (fun f => f.taken planned)).onAiring p (fun _ => s2.usedExclusive n.record)
    let s4 := if s3.rehearsing p then s3 else s3.forEach (s3.airingSet p) (fun c t => t.claimRequest p c)
    ((s4.postAtTake p).selectNext p).letGo p used

/-- An automatic end that finds no NEXT entry (R92). -/
def Part.endWithoutTake (s : Part) (p : ProgId) (e : Entry) : Part :=
  let used := s.airingSet p
  let s1 := (s.endAiring p).onRunner p (fun r => { r with held := none })
  let s2 :=
    if (s.runner p).state = .running then
      (s1.onRunner p (fun r => { r with state := .idle })).raise .rundownEnd { program := some p, tag := some e.tag }
    else s1
  (s2.letGo p used).selectNext p

/-- The automatic-end test is made: RUNNING, or PARK_PENDING with no frozen elapsed (R91). -/
def Part.endTested (s : Part) (p : ProgId) : Bool :=
  (s.runner p).state == .running || ((s.runner p).state == .parkPending && (s.runner p).held.isNone)

/-- The automatic-end test of a frame start and what it brings; the airing ends on rows reckoned from the P the test
reads (R87, R91, R92, R121). -/
def Part.automaticEnd (s : Part) (p : ProgId) : Part :=
  match s.onAirEntry p with
  | none => s
  | some e =>
    if s.endTested p = true ∧ s.endDue p e = true then
      if (s.nextEntry p).isSome then s.take p true else (s.reckonAiring p).endWithoutTake p e
    else s

/-! ### The end of the show (R98) -/

/-- A release request on every channel the program holds (R98). -/
def Part.releaseAll (s : Part) (p : ProgId) : Part :=
  s.forEach allChannels (fun c t => t.releaseRequest p c)

/-- END_SHOW in RUNNING and HELD, and in PARK_PENDING, which stays (R98). -/
def Part.endShow (s : Part) (p : ProgId) : Part :=
  let used := s.airingSet p
  let parking := (s.runner p).state == .parkPending
  let s1 := (s.endAiring p).onRunner p (fun r =>
    { r with held := none, showStart := none, state := if parking then .parkPending else .idle,
             givenUp := if parking then r.givenUp else true })
  if s1.rehearsing p then s1.echoClears p used ((s1.nextEntry p).map Entry.record) else s1.releaseAll p

/-! ### Parking (R99 to R101) -/

/-- A line with an input function of the program in effect is armed with its accepted level active. The function
in effect is the presenter naming's when one stands, and that is no input function (R164, R168). -/
def Line.holdsPark (l : Line) (p : ProgId) : Bool :=
  l.naming.isNone && l.config.fn.actionProgram == some p && l.armed && l.accepted

/-- A command the program posted waits in the channel's queue, or is its current command AWAITING (R100). -/
def Channel.carriesFor (ch : Channel) (p : ProgId) : Bool :=
  ch.queue.any (fun k => k.program == p) || (ch.current.program == some p && ch.current.standing == .awaiting)

/-- The park conditions (R100). -/
def Part.parkConditions (s : Part) (p : ProgId) : Bool :=
  (s.onAirEntry p).isNone
    && allChannels.all (fun c => (s.channel c).claim.program != some p && !(s.channel c).carriesFor p)
    && allLines.all (fun l => !(s.line l).holdsPark p)

/-- The program becomes PARKED (R100, R142, R143, R154). -/
def Part.enterParked (s : Part) (p : ProgId) : Part :=
  let s1 := s.onRunner p (fun r => { r with state := .parked, showStart := none })
  let s2 := ((s1.echoEmpty p).tablesEmpty p).onAiring p (fun _ => [])
  (s2.forEach allChannels (fun c t => t.onChannel c (fun ch => ch.leaveWaiting p))).selectNext p

/-- The test of the park conditions in PARK_PENDING (R99, R100). -/
def Part.parkTest (s : Part) (p : ProgId) : Part :=
  if (s.runner p).state = .parkPending ∧ s.parkConditions p = true then s.enterParked p else s

/-- PARK in IDLE, RUNNING and HELD: the NEXT entry leaves NEXT, since next selection now finds none (R99). -/
def Part.park (s : Part) (p : ProgId) : Part :=
  let s1 := s.onRunner p (fun r => { r with state := .parkPending, pinned := false })
  (s1.selectNext p).parkTest p

/-- The state a cancelled park leads to (R101). -/
def Part.unparkedState (s : Part) (p : ProgId) : ProgState :=
  match s.onAirEntry p with
  | none => .idle
  | some _ => if (s.runner p).held.isSome then .held else .running

/-- A park is cancelled (R101). -/
def Part.cancelPark (s : Part) (p : ProgId) : Part :=
  (s.onRunner p (fun r => { r with state := s.unparkedState p, pinned := false })).selectNext p

/-- A PARKED program is unparked to IDLE (R101). -/
def Part.unpark (s : Part) (p : ProgId) : Part :=
  (s.onRunner p (fun r => { r with state := .idle, pinned := false })).selectNext p

/-- A park is cancelled in PARK_PENDING, a PARKED program unparked, any other left (R96, R101). -/
def Part.leaveParking (s : Part) (p : ProgId) : Part :=
  match (s.runner p).state with
  | .parkPending => s.cancelPark p
  | .parked => s.unpark p
  | .idle | .running | .held => s

/-! ### Hard starts (R93, R94) -/

/-- The entry's hard start is reached at the last frame start (R93). -/
def Part.hardReached (s : Part) (e : Entry) : Bool :=
  match (s.record e.record).hardStart? with
  | some t => s.clock.reached t
  | none => false

/-- The entry whose hard start a RUNNING program takes: of the PENDING and NEXT entries reached, the one standing
last in list order (R93, R94). -/
def Part.hardTarget (s : Part) (p : ProgId) : Option Entry :=
  if (s.runner p).state = .running then
    (s.rundown p).entries.findRev? (fun e => e.waits && s.hardReached e)
  else none

/-- The entry's hard start is reached and missed (R94). -/
def Part.hardMissed (s : Part) (p : ProgId) (e : Entry) : Bool :=
  s.hardReached e && e.state != .onAir && (s.hardTarget p).map Entry.tag != some e.tag

/-- The notice of a missed hard start (R94). -/
def Part.raiseMissed (s : Part) (p : ProgId) (tag : Nat) : Part :=
  s.raise .hardStartMissed { program := some p, tag := some tag }

/-- The PENDING entries that stand after the take mark and before an entry (R93). -/
def Rundown.passedOver (l : Rundown) (tag : Nat) : List Entry :=
  if l.afterMark.any (fun e => e.tag == tag) then
    (l.afterMark.takeWhile (fun e => e.tag != tag)).filter (fun e => e.state == .pending)
  else []

/-- A passed-over entry becomes DROPPED, with its notice (R93). -/
def Part.dropPassed (s : Part) (p : ProgId) (e : Entry) : Part :=
  (s.onEntry p e.tag (fun x => { x with state := .dropped })).raise .hardStartDrop { program := some p }

/-- A hard-start take of an entry, which is made at a frame start (R87, R93). -/
def Part.hardTake (s : Part) (p : ProgId) (e : Entry) : Part :=
  let s1 := if e.state = .next then s else s.pinNext p e
  (s1.forEach ((s1.rundown p).passedOver e.tag) (fun x t => t.dropPassed p x)).take p true

/-- The hard-start take of the program, when there is one to make (R93). -/
def Part.hardStartTake (s : Part) (p : ProgId) : Part :=
  match s.hardTarget p with
  | some e => s.hardTake p e
  | none => s

/-- The hard start of the entry of a tag, when it is missed (R94). -/
def Part.hardStartMissed (s : Part) (p : ProgId) (tag : Nat) : Part :=
  match (s.rundown p).entry? tag with
  | some e => if s.hardMissed p e then s.raiseMissed p tag else s
  | none => s

/-- The hard-start test of step 3 of R87: the misses, in list order, and the take (R93, R94). -/
def Part.hardStarts (s : Part) (p : ProgId) : Part :=
  let missed := (s.rundown p).entries.filter (fun e => s.hardMissed p e)
  match s.hardTarget p with
  | some e => (s.forEach missed (fun x t => t.raiseMissed p x.tag)).hardTake p e
  | none => s.forEach missed (fun x t => t.raiseMissed p x.tag)

/-! ### Break-ins (R95, R96) -/

/-- Most entries a list holds (R61). -/
def listMax : Nat := 128

/-- The lowest tag from 65,280 to 65,535 that no entry of the list carries (R95). -/
def Rundown.freeTag (l : Rundown) : Nat :=
  (((List.range 256).map (fun i => 65280 + i)).find? (fun t => !l.entries.any (fun e => e.tag == t))).getD 65280

/-- A created entry (R61, R62). -/
def Entry.create (tag : Nat) (record : RecId) (breaking : Bool) : Entry :=
  { tag := tag, record := record, state := .pending, breaking := breaking, takeFrame := none, actual := none,
    airings := 0 }

/-- A list with an entry placed immediately after the entry of a tag, or at the head for the tag 0 (R67, R96). -/
def placeAfter (e : Entry) (after : Nat) (l : List Entry) : List Entry :=
  if after = 0 then e :: l else l.flatMap (fun x => if x.tag = after then [x, e] else [x])

/-- A BREAK_IN that passes its checks (R96). Only the command takes at once, between two frame starts: an INPUT_BREAK
does not (R102). -/
def Part.breakIn (s : Part) (p : ProgId) (r : RecId) (takeNow : Bool) : Part :=
  let e := Entry.create (s.rundown p).freeTag r true
  let s1 := (s.leaveParking p).addLink r
  let s2 := s1.onRundown p (fun l => { l with entries := placeAfter e (l.mark.getD 0) l.entries })
  let s3 := s2.pinNext p e
  if takeNow then s3.take p false else s3

/-- Why the creation of an entry is refused, none when it passes (steps 5 to 7 of R67, steps 3 to 5 of R95). -/
def Part.createRefusal (s : Part) (p : ProgId) (r : RecId) : Option Reply :=
  if (s.rundown p).entries.length ≥ listMax then some (Reply.refuse .full 8 [])
  else if s.poolFree = 0 then some (Reply.refuse .full 9 [])
  else (linkRefusal (s.record r)).map (fun c => Reply.refuse c 10 (be1 r.val))

/-! ### Replies of the running commands (R84) -/

/-- The data of a running command answered with DONE (R84). -/
def Part.runData (s : Part) (p : ProgId) : List Byte :=
  be1 (s.runner p).state.code ++ be2 (tagOr0 (s.onAirEntry p)) ++ be2 (tagOr0 (s.nextEntry p))

/-- BUSY, detail 7, with the program state (R65). -/
def Part.stateBusy (s : Part) (p : ProgId) : Reply := Reply.refuse .busy 7 (be1 (s.runner p).state.code)

/-- A command that carries a program: a program code above 3 gives RANGE, detail 1 (R65, R84). -/
def withProgram (program : Byte) (s : Part) (f : ProgId → Part × Reply) : Part × Reply :=
  match progOf program.toNat with
  | none => (s, Reply.badProgram)
  | some p => f p

/-- A running command answered with DONE and the data of R84. -/
def Part.ranWith (s : Part) (p : ProgId) (more : List Byte) : Part × Reply := (s, Reply.done (s.runData p ++ more))

/-! ### The running commands -/

/-- The NEXT entry a TAKE is tested on: in PARK_PENDING, the one next selection would give with the park cancelled
(R88). -/
def Part.takeTarget (s : Part) (p : ProgId) : Option Entry :=
  if (s.runner p).state = .parkPending then (s.rundown p).candidate else s.nextEntry p

/-- TAKE of a program, with an expected tag or 0, in a frame start or between two (R88). -/
def Part.takeCommand (s : Part) (p : ProgId) (expected : Nat) (atStart : Bool) : Part × Reply :=
  if (s.runner p).state = .parked then (s.unpark p, Reply.refuse .notFound 12 [])
  else match s.takeTarget p with
    | none => (s, Reply.refuse .notFound 12 [])
    | some e =>
      if expected ≠ 0 ∧ expected ≠ e.tag then (s, Reply.refuse .busy 13 (be2 e.tag))
      else ((s.leaveParking p).take p atStart).ranWith p (be2 (tagOr0 (s.onAirEntry p)))

/-- TAKE, a command between two frame starts (R88). -/
def cmdTake (program : Byte) (expected : Half) (s : Part) : Part × Reply :=
  withProgram program s (fun p => s.takeCommand p expected.toNat false)

/-- RUNNING becomes HELD (R89). -/
def Part.hold (s : Part) (p : ProgId) : Part :=
  s.onRunner p (fun r => { r with state := .held, held := s.elapsed p })

/-- HELD becomes RUNNING (R90). -/
def Part.releaseHold (s : Part) (p : ProgId) : Part :=
  match s.onAirEntry p with
  | none => s
  | some e =>
    s.onRunner p (fun r =>
      { r with state := .running, held := none
               correction := since (since s.clock.frame (e.takeFrame.getD 0)) (r.held.getD 0) })

/-- HOLD (R89). -/
def cmdHold (program : Byte) (s : Part) : Part × Reply :=
  withProgram program s (fun p =>
    match (s.runner p).state with
    | .running => (s.hold p).ranWith p []
    | .held => s.ranWith p []
    | .idle | .parkPending | .parked => (s, s.stateBusy p))

/-- RELEASE (R90). -/
def cmdRelease (program : Byte) (s : Part) : Part × Reply :=
  withProgram program s (fun p =>
    match (s.runner p).state with
    | .held => (s.releaseHold p).ranWith p []
    | .running => s.ranWith p []
    | .idle | .parkPending | .parked => (s, s.stateBusy p))

/-- END_SHOW (R98). -/
def cmdEndShow (program : Byte) (s : Part) : Part × Reply :=
  withProgram program s (fun p =>
    match (s.runner p).state with
    | .running | .held | .parkPending => (s.endShow p).ranWith p (be2 (tagOr0 (s.onAirEntry p)))
    | .idle | .parked => (s, s.stateBusy p))

/-- PARK (R99). -/
def cmdPark (program : Byte) (s : Part) : Part × Reply :=
  withProgram program s (fun p =>
    match (s.runner p).state with
    | .idle | .running | .held => (s.park p).ranWith p []
    | .parkPending | .parked => s.ranWith p [])

/-- UNPARK (R101). -/
def cmdUnpark (program : Byte) (s : Part) : Part × Reply :=
  withProgram program s (fun p => (s.leaveParking p).ranWith p [])

/-- BREAK_IN of a program with a record or none (R95, R96). -/
def Part.breakInCommand (s : Part) (p : ProgId) (record : Option RecId) (takeNow : Bool) : Part × Reply :=
  match record <|> (s.runner p).settings.breakIn with
  | none => (s, Reply.refuse .notFound 15 [])
  | some r =>
    match s.createRefusal p r with
    | some no => (s, no)
    | none => (s.breakIn p r takeNow).ranWith p (be2 (s.rundown p).freeTag)

/-- BREAK_IN (R95, R96). -/
def cmdBreakIn (program given record takeNow : Byte) (s : Part) : Part × Reply :=
  withProgram program s (fun p =>
    s.breakInCommand p (if given ≠ 0 then some (recOf record) else none) (takeNow != 0))

/-- SET_MODE (R103). -/
def cmdSetMode (program mode : Byte) (s : Part) : Part × Reply :=
  withProgram program s (fun p =>
    match Mode.ofCode mode.toNat with
    | none => (s, Reply.badParam 2)
    | some m =>
      if (s.runner p).state ≠ .parked then (s, s.stateBusy p)
      else ((s.onRunner p (fun r => { r with mode := m })).echoEmpty p).ranWith p [])

/-- The position of the first setting of SET_PROGRAM outside its range (R104). -/
def badSetting (rate : Rate) (priority hardOut w1 w2 : Nat) : Option Nat :=
  if priority > 3 then some 2
  else if hardOut ≠ noneDay ∧ rateDay rate ≤ hardOut then some 3
  else if w1 < 1 ∨ w1 > 600 then some 4
  else if w2 < 1 ∨ w2 > 600 ∨ w2 > w1 then some 5
  else none

/-- SET_PROGRAM (R104). -/
def cmdSetProgram (program priority : Byte) (hardOut : Word) (w1 w2 : Half) (given record : Byte) (s : Part) :
    Part × Reply :=
  withProgram program s (fun p =>
    match badSetting s.clock.rate priority.toNat hardOut.toNat w1.toNat w2.toNat with
    | some i => (s, Reply.badParam i)
    | none =>
      let set : Settings :=
        { priority := priority.toNat, hardOut := if hardOut.toNat = noneDay then none else some hardOut.toNat,
          w1 := w1.toNat, w2 := w2.toNat, breakIn := if given ≠ 0 then some (recOf record) else none }
      (s.onRunner p (fun r => { r with pending := some set })).ranWith p [])

/-- The program record at PROGRAM_RESET: its reset values, with the settings, mode and pending settings kept (R105). -/
def Runner.programReset (r : Runner) : Runner :=
  { Runner.reset with settings := r.settings, mode := r.mode, pending := r.pending }

/-- PROGRAM_RESET of a program (R105, R123, R143). The Timing Unit's thresholds in frames become those of 30 and 10
seconds at the rate in effect, as after RESET_NODE. -/
def Part.programReset (s : Part) (p : ProgId) : Part :=
  let entries := (s.rundown p).entries
  let rate := s.clock.rate
  let s1 := (s.forEach entries (fun e t => t.removeLink e.record)).onRundown p (fun _ => Rundown.empty)
  let s2 := (s1.onAiring p (fun _ => [])).onRunner p Runner.programReset
  let s3 := s2.forEach allChannels (fun c t => t.onChannel c (fun ch => ch.purge p))
  let s4 := s3.forEach allChannels (fun c t => t.dropClaim p c)
  let s5 := (s4.tablesEmpty p).echoEmpty p
  s5.onTiming p (fun _ => Timing.reset (secondsToFrames rate 30) (secondsToFrames rate 10))

/-- PROGRAM_RESET (R105). -/
def cmdProgramReset (program : Byte) (s : Part) : Part × Reply :=
  withProgram program s (fun p => (s.programReset p).ranWith p (be1 (s.rundown p).entries.length))

/-! ### FIRE (R133) -/

/-- A row is firable (R133). -/
def Row.firable (r : Row) : Bool :=
  if r.anchor = .manual then r.held.isNone else r.outcome == .waiting || r.outcome == .skipped

/-- The data of a FIRE answered with DONE: the row's outcome, and whether it is held for READY (R133). -/
def Row.firedData (r : Row) : List Byte := be1 r.outcome.code ++ beFlag r.held.isSome

/-- FIRE of a program's event (R133). -/
def Part.fireCommand (s : Part) (p : ProgId) (index : Nat) : Part × Reply :=
  if index > 15 then (s, Reply.badParam 2)
  else if (s.onAirEntry p).isNone then (s, Reply.refuse .notFound 14 [])
  else match s.row? p .onAir index with
    | none => (s, Reply.refuse .notFound 18 [])
    | some r =>
      if r.firable then
        let t := s.fireRow p .onAir index
        (t, Reply.done (((t.row? p .onAir index).map Row.firedData).getD []))
      else (s, Reply.refuse .busy 19 (be1 r.outcome.code))

/-- FIRE (R133). -/
def cmdFire (program index : Byte) (s : Part) : Part × Reply :=
  withProgram program s (fun p => s.fireCommand p index.toNat)

/-! ### Input actions (R102) -/

/-- The action of a line function, by a program that is not PARKED (R102). A level is accepted at a frame start, so an
INPUT_TAKE is a take of that frame start (R121, R176). -/
def Part.inputEffect (s : Part) (fn : LineFn) : Part :=
  match fn with
  | .inputTake p => (s.takeCommand p 0 true).1
  | .inputHold p =>
    match (s.runner p).state with
    | .running => s.hold p
    | .held => s.releaseHold p
    | .idle | .parkPending | .parked => s
  | .inputBreak p =>
    let r := s.breakInCommand p none false
    if r.2.result = .done then r.1 else r.1.raise .breakInFailed { program := some p }
  | .inputFire p e => (s.fireCommand p e.val).1
  | .unused | .manualOut | .tally _ _ | .rehearsalTally _ _ | .programOnAir _ | .cue _ | .standby _
  | .inputGeneral => s

/-- An input action handed to a runner: a PARKED program is unparked first, and an INPUT_TAKE then takes nothing
(R88, R102). -/
def Part.inputAction (s : Part) (fn : LineFn) : Part :=
  match fn.actionProgram with
  | none => s
  | some p =>
    if (s.runner p).state = .parked then
      let t := s.unpark p
      if fn = .inputTake p then t else t.inputEffect fn
    else s.inputEffect fn

/-! ### The runner at a frame start (R87) -/

/-- Step 1 of R87: pending settings take effect. -/
def Part.settingsTakeEffect (s : Part) (p : ProgId) : Part :=
  s.onRunner p (fun r =>
    match r.pending with
    | some n => { r with settings := n, pending := none }
    | none => r)

/-- Step 2 of R87: an observed report of RUNNING sets the timing run seen flag (R91). -/
def Part.lookForRun (s : Part) (p : ProgId) : Part :=
  match s.onAirEntry p with
  | none => s
  | some e =>
    if (s.observed p e.record).map Report.status = some .running then
      s.onRunner p (fun r => { r with runSeen := true })
    else s

/-- The runner's work at a frame start (R87). -/
def Part.runnerFrameStart (s : Part) (p : ProgId) : Part :=
  let s1 := (s.settingsTakeEffect p).lookForRun p
  let s2 := s1.hardStarts p
  let s3 := if (s1.hardTarget p).isSome then s2 else s2.automaticEnd p
  s3.parkTest p

end Sys2Proof.Machine
end

