-- ==== Sys2Proof/Machine/Lists.lean ====
section
/-! DEFINITION. The commands on the Rundown Lists (chapter 4). -/

namespace Sys2Proof.Machine

/-! ### Replies (R65) -/

/-- The data of a list command answered with DONE: entries of the list, free entries of the pool, NEXT tag (R65). -/
def Part.listData (s : Part) (p : ProgId) : List Byte :=
  be1 (s.rundown p).entries.length ++ be2 s.poolFree ++ be2 (tagOr0 (s.nextEntry p))

/-- A list command answered with DONE, its own data first (R65, R68, R73). -/
def Part.listedWith (s : Part) (p : ProgId) (more : List Byte) : Part × Reply :=
  (s, Reply.done (more ++ s.listData p))

/-- NOT_FOUND, detail 4: the named entry is not in the list (R65). -/
def notListed : Reply := Reply.refuse .notFound 4 []

/-- BUSY, detail 6, with the entry's state (R65). -/
def entryBusy (e : Entry) : Reply := Reply.refuse .busy 6 (be1 e.state.code)

/-- A command that names a program and an entry of its list: steps shared by R69 to R72 and R79. -/
def withEntry (program : Byte) (tag : Half) (s : Part) (f : ProgId → Entry → Part × Reply) : Part × Reply :=
  withProgram program s (fun p =>
    match (s.rundown p).entry? tag.toNat with
    | none => (s, notListed)
    | some e => f p e)

/-! ### Creating entries (R67, R68) -/

/-- Steps 2 and 3 of R67: the tag of a new entry. -/
def Rundown.tagRefusal (l : Rundown) (tag : Nat) : Option Reply :=
  if tag = 0 ∨ 65280 ≤ tag then some (Reply.refuse .range 2 [])
  else if (l.entry? tag).isSome then some (Reply.refuse .range 3 [])
  else none

/-- The entry a tag to place after names is missing (step 4 of R67). -/
def Rundown.placeMissing (l : Rundown) (after : Nat) : Bool := after != 0 && (l.entry? after).isNone

/-- INSERT_ENTRY (R67). -/
def cmdInsertEntry (program : Byte) (tag : Half) (record : Byte) (after : Half) (s : Part) : Part × Reply :=
  withProgram program s (fun p =>
    match (s.rundown p).tagRefusal tag.toNat with
    | some no => (s, no)
    | none =>
      if (s.rundown p).placeMissing after.toNat then (s, Reply.refuse .notFound 5 [])
      else match s.createRefusal p (recOf record) with
        | some no => (s, no)
        | none =>
          let e := Entry.create tag.toNat (recOf record) false
          let s1 := (s.addLink (recOf record)).onRundown p (fun l =>
            { l with entries := placeAfter e after.toNat l.entries })
          (s1.selectNext p).listedWith p [])

/-- One pair of APPEND_ENTRIES: the refusal, or the part with the entry at the tail (R68). -/
def Part.appendPair (s : Part) (p : ProgId) (pair : Half × Byte) : Except Reply Part :=
  match (s.rundown p).tagRefusal pair.1.toNat with
  | some no => .error no
  | none =>
    match s.createRefusal p (recOf pair.2) with
    | some no => .error no
    | none =>
      .ok ((s.addLink (recOf pair.2)).onRundown p (fun l =>
        { l with entries := l.entries ++ [Entry.create pair.1.toNat (recOf pair.2) false] }))

/-- The pairs applied in order up to the first that fails, with their number and the refusal (R68). -/
def Part.appendPairs (s : Part) (p : ProgId) : List (Half × Byte) → Nat → Part × Nat × Option Reply
  | [], n => (s, n, none)
  | pair :: rest, n =>
    match s.appendPair p pair with
    | .error no => (s, n, some no)
    | .ok t => t.appendPairs p rest (n + 1)

/-- APPEND_ENTRIES (R68). The data of a stopped command is that of R68 and behind it the failing pair's own, the record
number of detail 10 (R65; DEDUCED, assumption log 33). -/
def cmdAppendEntries (program : Byte) (pairs : List (Half × Byte)) (s : Part) : Part × Reply :=
  withProgram program s (fun p =>
    match s.appendPairs p pairs 0 with
    | (t, n, none) => (t.selectNext p).listedWith p (be1 n)
    | (t, n, some no) =>
      let t1 := t.selectNext p
      (t1, { no with data := be1 n ++ t1.listData p ++ no.data }))

/-! ### Moving, dropping and restoring (R69 to R71) -/

/-- The list with an entry taken out of its place and put after another, or at the head (R69). -/
def Rundown.moved (l : Rundown) (e : Entry) (after : Nat) : Rundown :=
  { l with entries := placeAfter e after (l.entries.filter (fun x => x.tag != e.tag)) }

/-- MOVE_ENTRY (R69). -/
def cmdMoveEntry (program : Byte) (tag after : Half) (s : Part) : Part × Reply :=
  withEntry program tag s (fun p e =>
    if (s.rundown p).placeMissing after.toNat then (s, Reply.refuse .notFound 5 [])
    else if after = tag then (s, Reply.refuse .range 11 [])
    else if e.state = .onAir then (s, entryBusy e)
    else ((s.onRundown p (fun l => l.moved e after.toNat)).selectNext p).listedWith p [])

/-- The NEXT entry is dropped: its pin goes, and next selection chooses among the others (R70, R78, R80). -/
def Part.dropNext (s : Part) (p : ProgId) (e : Entry) : Part :=
  let s1 := s.onRunner p (fun r => { r with pinned := false })
  let new := (s1.onEntry p e.tag (fun x => { x with state := .dropped })).chosen p
  s1.changeNext p (some e) new .dropped

/-- DROP_ENTRY (R70). -/
def cmdDropEntry (program : Byte) (tag : Half) (s : Part) : Part × Reply :=
  withEntry program tag s (fun p e =>
    match e.state with
    | .onAir | .done => (s, entryBusy e)
    | .dropped => s.listedWith p []
    | .pending =>
      ((s.onEntry p e.tag (fun x => { x with state := .dropped })).selectNext p).listedWith p []
    | .next => (s.dropNext p e).listedWith p [])

/-- RESTORE_ENTRY (R71). -/
def cmdRestoreEntry (program : Byte) (tag : Half) (s : Part) : Part × Reply :=
  withEntry program tag s (fun p e =>
    if e.state = .dropped then
      ((s.onEntry p e.tag (fun x => { x with state := .pending })).selectNext p).listedWith p []
    else (s, entryBusy e))

/-! ### Relinking (R72, R134, R135) -/

/-- The entry's link moves to a new record (R58, R72). -/
def Part.relink (s : Part) (p : ProgId) (e : Entry) (r : RecId) : Part :=
  (s.moveLink e.record r).onEntry p e.tag (fun x => { x with record := r })

/-- The NEXT entry is relinked: it leaves NEXT with the old story and becomes NEXT with the new one (R135). -/
def Part.relinkNext (s : Part) (p : ProgId) (e : Entry) (r : RecId) : Part :=
  ((s.leaveEffects p e.record (some r)).relink p e r).becomeEffects p e.tag r

/-- The ON_AIR entry is relinked: table, run seen flag, airing set and claims (R91, R134, R150). -/
def Part.relinkOnAir (s : Part) (p : ProgId) (e : Entry) (r : RecId) : Part :=
  let sameTiming := (s.record e.record).timing? == (s.record r).timing?
  let s1 := (s.relink p e r).onRunner p (fun x => { x with runSeen := x.runSeen && sameTiming })
  let s2 := s1.rebuildTable p (s1.record r) ((s1.elapsed p).getD 0)
  let used := s2.usedExclusive r
  let s3 := s2.onAiring p (fun l => l ++ used.filter (fun c => !l.contains c))
  if s3.rehearsing p then s3 else s3.forEach used (fun c t => t.claimRequest p c)

/-- RELINK_ENTRY (R72). -/
def cmdRelinkEntry (program : Byte) (tag : Half) (record : Byte) (s : Part) : Part × Reply :=
  withEntry program tag s (fun p e =>
    let r := recOf record
    if r = e.record then s.listedWith p []
    else match linkRefusal (s.record r) with
      | some c => (s, Reply.refuse c 10 (be1 r.val))
      | none =>
        match e.state with
        | .onAir => (s.relinkOnAir p e r).listedWith p []
        | .next => (s.relinkNext p e r).listedWith p []
        | .pending | .done | .dropped => (s.relink p e r).listedWith p [])

/-! ### Removing entries (R73, R74) -/

/-- The entry leaves the list at a trim. -/
def Entry.trims (e : Entry) : Bool := e.state == .done

/-- The take mark after a trim: the marked entry, or the nearest entry before it that is kept (R76). -/
def Rundown.trimmedMark (l : Rundown) : Option Nat :=
  match l.mark with
  | none => none
  | some m =>
    if l.entries.any (fun e => e.tag == m && e.trims) then
      (((l.entries.takeWhile (fun e => e.tag != m)).filter (fun e => !e.trims)).getLast?).map Entry.tag
    else some m

/-- The list without its DONE entries (R73). -/
def Rundown.trimmed (l : Rundown) : Rundown :=
  { entries := l.entries.filter (fun e => !e.trims), mark := l.trimmedMark }

/-- TRIM_DONE (R73). -/
def cmdTrimDone (program : Byte) (s : Part) : Part × Reply :=
  withProgram program s (fun p =>
    let gone := (s.rundown p).entries.filter Entry.trims
    let s1 := (s.forEach gone (fun e t => t.removeLink e.record)).onRundown p Rundown.trimmed
    (s1.selectNext p).listedWith p (be1 gone.length))

/-- CLEAR_RUNDOWN is accepted: PARKED, or IDLE with no ON_AIR and no NEXT entry (R74). -/
def Part.clearable (s : Part) (p : ProgId) : Bool :=
  (s.runner p).state == .parked
    || ((s.runner p).state == .idle && (s.onAirEntry p).isNone && (s.nextEntry p).isNone)

/-- CLEAR_RUNDOWN (R74). -/
def cmdClearRundown (program : Byte) (s : Part) : Part × Reply :=
  withProgram program s (fun p =>
    if s.clearable p then
      let all := (s.rundown p).entries
      let s1 := (s.forEach all (fun e t => t.removeLink e.record)).onRundown p (fun _ => Rundown.empty)
      (s1.selectNext p).listedWith p (be1 all.length)
    else (s, s.stateBusy p))

/-! ### Pinning (R79) -/

/-- SET_NEXT (R79). -/
def cmdSetNext (program : Byte) (tag : Half) (s : Part) : Part × Reply :=
  withEntry program tag s (fun p e =>
    if (s.runner p).state = .parkPending then (s, s.stateBusy p)
    else if e.state = .onAir then (s, entryBusy e)
    else ((s.leaveParking p).pinNext p e).listedWith p [])

end Sys2Proof.Machine
end

