-- ==== Sys2Proof/Machine/Timing.lean ====
section
/-! DEFINITION. The Timing Unit (chapter 6): the presenter table, and the timing results of each frame start. -/

namespace Sys2Proof.Machine

/-! ### Presenters (R107) -/

/-- A presenter's settings as they will stand at the next frame start (R107). -/
def Presenter.coming (k : Presenter) : PresSettings := k.pending.getD k.settings

/-- Settings that name a line; line 0 names none. -/
def PresSettings.names (m : PresSettings) (line : Nat) : Bool := line != 0 && (m.cue == line || m.standby == line)

/-- The position of the first parameter of SET_PRESENTER out of its range (step 1 of R107). -/
def badPresParam (presenter rate cue standby : Nat) : Option Nat :=
  if presenter = 0 ∨ presenter > 16 then some 1
  else if rate < 8 ∨ rate > 64 then some 2
  else if cue > 32 then some 3
  else if standby > 32 then some 4
  else none

/-- Another presenter that names a line (step 3 of R107). -/
def Part.lineTaken (s : Part) (k : PresId) (line : Nat) : Option PresId :=
  allPresenters.find? (fun m => m != k && (s.presenter m).coming.names line)

/-- SET_PRESENTER (R107). -/
def cmdSetPresenter (presenter rate cue standby : Byte) (s : Part) : Part × Reply :=
  match badPresParam presenter.toNat rate.toNat cue.toNat standby.toNat, presOf presenter.toNat with
  | some i, _ => (s, Reply.badParam i)
  | none, none => (s, Reply.badParam 1)
  | none, some k =>
    if cue ≠ 0 ∧ cue = standby then (s, Reply.refuse .range 17 [])
    else match s.lineTaken k cue.toNat <|> s.lineTaken k standby.toNat with
      | some m => (s, Reply.refuse .range 17 (be1 (presNo m)))
      | none =>
        (s.onPresenter k (fun x =>
          { x with pending := some { readRate := rate.toNat, cue := cue.toNat, standby := standby.toNat } }),
          Reply.done [])

/-- A presenter whose pending settings take effect (R107). -/
def Presenter.takeEffect (k : Presenter) : Presenter := { k with settings := k.coming, pending := none }

/-- Every presenter's pending settings take effect together (R107). -/
def Part.presentersTakeEffect (s : Part) : Part :=
  s.forEach allPresenters (fun k t => t.onPresenter k Presenter.takeEffect)

/-! ### The pending set (R113) -/

/-- The first entry of the pending set: the NEXT entry, or the one next selection would choose (R113). -/
def Part.pendingHead (s : Part) (p : ProgId) : Option Entry :=
  if parking (s.runner p).state then (s.rundown p).candidate else s.nextEntry p

/-- The pending set of a program, in its order (R113). -/
def Part.pendingSet (s : Part) (p : ProgId) : List Entry :=
  match s.pendingHead p with
  | none => []
  | some e =>
    e :: (((s.rundown p).entries.dropWhile (fun x => x.tag != e.tag)).tail.filter (fun x => x.state == .pending))

/-! ### Sums held to the half-day limit (R119) -/

/-- A sum of durations with whether it was held. -/
def heldSum (limit n : Nat) : Nat × Bool := if n > limit then (limit, true) else (n, false)

/-- What the reckoning needs of one pending entry: tag, P and its anchor time. -/
structure PlanItem where
  tag    : Nat
  p      : Nat
  anchor : Option Nat
deriving DecidableEq, Repr

/-- A day frame below D, or none (R115). -/
def usable (r : Rate) (t : Option Nat) : Option Nat := t.filter (fun x => x < rateDay r)

/-- The plan item of an entry (R109, R115). -/
def Part.planItem (s : Part) (e : Entry) : PlanItem :=
  { tag := e.tag, p := s.planned e.record, anchor := usable s.clock.rate (s.record e.record).hardStart? }

/-- The anchor time a run of items is timed back to and the sum up to it, before holding (R116). -/
def backFrom (show? : Option Nat) : List PlanItem → Nat → Option (Nat × Nat)
  | [], sum => show?.map (fun h => (h, sum))
  | i :: rest, sum =>
    match i.anchor with
    | some t => some (t, sum)
    | none => backFrom show? rest (sum + i.p)

/-- The backtime of the first of a run of items, with whether its sum was held (R116, R119). -/
def backtime (r : Rate) (show? : Option Nat) (items : List PlanItem) : Option Nat × Bool :=
  match backFrom show? items 0 with
  | none => (none, false)
  | some (t, sum) =>
    let h := heldSum (halfDay r) sum
    (some ((t + rateDay r - h.1) % rateDay r), h.2)

/-- The pending rows from a sum before the first item, with whether any sum was held (R116, R117, R119). -/
def planRows (r : Rate) (now : Nat) (show? : Option Nat) : Nat → List PlanItem → List PendingRow × Bool
  | _, [] => ([], false)
  | before, i :: rest =>
    let f := heldSum (halfDay r) before
    let b := backtime r show? (i :: rest)
    let more := planRows r now show? (before + i.p) rest
    ({ tag := i.tag, p := i.p, front := (now + f.1) % rateDay r, back := b.1 } :: more.1, f.2 || b.2 || more.2)

/-- O_next: the first anchor item's front time against its anchor time (R118). -/
def firstAnchor (r : Rate) : List PlanItem → List PendingRow → Option (Int × Nat)
  | i :: items, w :: rows =>
    match i.anchor with
    | some t => some (signedDiff r w.front t, i.tag)
    | none => firstAnchor r items rows
  | _, _ => none

/-- The wrap stage of a remaining time (R120). -/
def stageOf (rem : Int) (w1 w2 : Nat) : WrapStage :=
  if (w1 : Int) < rem then .steady else if (w2 : Int) < rem then .slow else .fast

/-- The wrap stage of a program (R120). -/
def Part.wrapStage (s : Part) (rem : Option Int) (onAir : Option Entry) (w1 w2 : Nat) : WrapStage :=
  match onAir, rem with
  | some e, some n =>
    let x := s.record e.record
    if x.presenterNo = 0 ∨ x.noWrap = true then .none else stageOf n w1 w2
  | _, _ => .none

/-- A program's timing results as reckoned at a frame start (R112 to R120). -/
def Part.reckon (s : Part) (p : ProgId) : Timing :=
  let rate := s.clock.rate
  let now := s.clock.day
  let onAir := s.onAirEntry p
  let set := (s.runner p).settings
  let show? := usable rate set.hardOut
  let rem := onAir.map (fun e => s.remaining p e)
  let left := (rem.getD 0).toNat
  let items := (s.pendingSet p).map s.planItem
  let rows := planRows rate now show? left items
  let sum := heldSum (halfDay rate) (left + (items.map PlanItem.p).sum)
  let e := (now + sum.1) % rateDay rate
  let w1 := secondsToFrames rate set.w1
  let w2 := secondsToFrames rate set.w2
  { p := onAir.map (fun e => s.planned e.record), rem := rem, rows := rows.1, e := e
    oShow := show?.map (fun h => signedDiff rate e h), oNext := firstAnchor rate items rows.1
    w1 := w1, w2 := w2, stage := s.wrapStage rem onAir w1 w2, saturated := rows.2 || sum.2
    frame := s.clock.frame }

/-- The Timing Unit's work for a program at a frame start, with the notice of an onset of saturation (R112, R119). -/
def Part.timingFrameStart (s : Part) (p : ProgId) : Part :=
  let t := s.reckon p
  let s1 := s.onTiming p (fun _ => t)
  if t.saturated = true ∧ (s.timing p).saturated = false then
    s1.raise .timingSaturated { program := some p }
  else s1

end Sys2Proof.Machine
end

