-- ==== Sys2Proof/Machine/Lines.lean ====
section
/-! DEFINITION. The Line Bank (chapter 9): functions and levels, presenter lamps, faults, inputs, trunk loss. -/

namespace Sys2Proof.Machine

/-! ### The function in effect and the levels (R164, R169, R173, R174) -/

/-- The function in effect of a line: the presenter naming's, or the configured one (R164). -/
def Line.fn (ln : Line) : LineFn :=
  match ln.naming with
  | some (k, true) => .cue k
  | some (k, false) => .standby k
  | none => ln.config.fn

/-- TALLY(p, c) requests active (R169). -/
def Part.tallyLit (s : Part) (p : ProgId) (c : ChanId) : Bool :=
  (s.runner p).mode == .live && (s.runner p).state != .parked && (s.channel c).onStates.at p

/-- REHEARSAL_TALLY(p, c) requests active (R169). -/
def Part.rehearsalLit (s : Part) (p : ProgId) (c : ChanId) : Bool :=
  (s.runner p).state != .parked && (s.firing p).echoOn.at c

/-- PROGRAM_ON_AIR(p) requests active (R169). -/
def Part.onAirLit (s : Part) (p : ProgId) : Bool := (s.runner p).mode == .live && (s.onAirEntry p).isSome

/-- The half-periods of slow and fast flashing (R171). -/
def halfPeriods : Rate → Nat × Nat
  | .r25 => (12, 4)
  | .r30df | .r30 => (15, 5)
  | .r50 => (25, 8)
  | .r60df | .r60 => (30, 10)

/-- The level a CUE line requests (R171). -/
def Presenter.lampLit (k : Presenter) (r : Rate) : Bool :=
  match k.pattern with
  | .dark => false
  | .lit => true
  | .slow => k.count / (halfPeriods r).1 % 2 == 0
  | .fast => k.count / (halfPeriods r).2 % 2 == 0

/-- The requested level of a line: a CUE line shows its presenter's flash phase, and a STANDBY line keeps what the last
frame start gave it (R168 to R172). -/
def Part.requestedLevel (s : Part) (ln : Line) : Option Bool :=
  match ln.fn with
  | .manualOut => some ln.manual
  | .tally p c => some (s.tallyLit p c)
  | .rehearsalTally p c => some (s.rehearsalLit p c)
  | .programOnAir p => some (s.onAirLit p)
  | .cue k => some ((s.presenter k).lampLit s.clock.rate)
  | .standby _ => some (ln.requested.getD false)
  | .unused | .inputTake _ | .inputHold _ | .inputBreak _ | .inputFire _ _ | .inputGeneral => none

/-- The output level of a line under the trunk-loss policy, from its requested level (R173, R174). The level that a line
holds whose policy becomes KEEP while HOLDING, and inactive for one that had no output level, are the model's choices
(assumption log 52). -/
def Line.outputLevel (ln : Line) (loss : TrunkLoss) (requested : Option Bool) : Option Bool :=
  match requested, loss, ln.config.policy with
  | none, _, _ => none
  | some r, .normal, _ => some r
  | some _, .holding, .safe => some false
  | some _, .holding, .keep => some (ln.output.getD false)

/-- The driven level of an output level: true is closed (R173). -/
def polDrives : Polarity → Bool → Bool
  | .activeClosed, b => b
  | .activeOpen, b => !b

/-- A line with its requested, output and driven levels formed (R173). -/
def Line.withLevels (ln : Line) (loss : TrunkLoss) (requested : Option Bool) : Line :=
  let out := ln.outputLevel loss requested
  { ln with requested := requested, output := out, driven := out.map (polDrives ln.config.polarity) }

/-- Every line recomputed from what its function reads, and driven (R167, R169). -/
def Part.settleLines (s : Part) : Part :=
  { s with lines := s.lines.map (fun ln => ln.withLevels s.trunkLoss (s.requestedLevel ln)) }

/-- Every line undriven: the reset pin is asserted (R179). -/
def Part.undriveLines (s : Part) : Part :=
  { s with lines := s.lines.map (fun ln => { ln with driven := none }) }

/-! ### Step 1 of R167: samples, faults and debounce (R175, R176) -/

/-- A line's sample: bit l of the word is set when line l + 1 reads closed. -/
def sampleOf (sensed : Word) (l : LineId) : Bool := sensed.getLsbD l.val

/-- The sensed level of a line as active or inactive, by its polarity (R176). -/
def Line.active (ln : Line) (sample : Bool) : Bool := polDrives ln.config.polarity sample

/-- The mismatch count of an output line after a sample; a match clears the fault flag (R175). -/
def Line.compare (ln : Line) (sample : Bool) : Line :=
  if ln.fn.isOutput then
    if ln.driven.any (fun d => d != sample) then { ln with mismatch := min 3 (ln.mismatch + 1) }
    else { ln with mismatch := 0, fault := false }
  else ln

/-- The pending change of an input line after a sample (R176). -/
def Line.debounced (ln : Line) (sample : Bool) : Line :=
  if ln.fn.isInput then
    if ln.active sample = ln.accepted then { ln with change := none }
    else { ln with change := some (ln.active sample, (ln.change.map Prod.snd).getD 0 + 1) }
  else ln

/-- A line that has taken its sample. -/
def Line.sampled (ln : Line) (sample : Bool) : Line :=
  { (ln.compare sample).debounced sample with sensed := sample }

/-- The fault flag is set at a mismatch count of 3, with its notice (R175). -/
def Part.lineFault (s : Part) (l : LineId) : Part :=
  let ln := s.line l
  if ln.fn.isOutput = true ∧ ln.mismatch = 3 ∧ ln.fault = false then
    (s.onLine l (fun ln => { ln with fault := true })).raise .lineFault { line := some (lineNo l) }
  else s

/-- Every line takes its sample, and faults are found, in line order (R175, R176). -/
def Part.sampleLines (s : Part) (sensed : Word) : Part :=
  s.forEach allLines (fun l t => (t.onLine l (fun ln => ln.sampled (sampleOf sensed l))).lineFault l)

/-- The level an input line's debounce has reached (R176). -/
def Line.reachedLevel (ln : Line) : Option Bool :=
  match ln.change with
  | some (b, n) => if ln.fn.isInput = true ∧ ln.config.debounce ≤ n then some b else none
  | none => none

/-- The pending change of a line becomes its accepted level (R176). -/
def Line.accept (ln : Line) : Line :=
  match ln.reachedLevel with
  | some b => { ln with accepted := b, change := none }
  | none => ln

/-- The action an acceptance performs: an activation of an ARMED line with an action function (R177). -/
def Line.performs (ln : Line) : Option LineFn :=
  if ln.reachedLevel = some true ∧ ln.armed = true ∧ ln.fn.actionProgram.isSome = true then some ln.fn else none

/-- An accepted level change of a line, with the input action it hands to a runner (R176 to R178). -/
def Part.acceptLine (s : Part) (l : LineId) : Part :=
  let t := s.onLine l Line.accept
  match (s.line l).performs with
  | some fn => t.inputAction fn
  | none => t

/-- The input actions of the levels now accepted, by line (R178). -/
def Part.actionsDue (s : Part) : List (LineId × LineFn) :=
  allLines.filterMap (fun l => (s.line l).performs.map (fun fn => (l, fn)))

/-- Every reached level accepted. -/
def Part.acceptLevels (s : Part) : Part := { s with lines := s.lines.map Line.accept }

/-! ### Step 2 of R167: configurations and namings (R166) -/

/-- A line restarts (R166); one that restarts while HOLDING holds inactive (R174). -/
def Line.restart (ln : Line) (loss : TrunkLoss) : Line :=
  { ln with mismatch := 0, fault := false, accepted := false, change := none, armed := false, manual := false
            requested := none, output := if loss = .holding then some false else ln.output }

/-- A line with its pending configuration and its presenter naming put into effect (R166). -/
def Line.configured (ln : Line) (naming : Option (PresId × Bool)) (loss : TrunkLoss) : Line :=
  let cfg := ln.pending.getD ln.config
  let n := { ln with config := cfg, pending := none, naming := naming }
  if n.fn ≠ ln.fn ∨ cfg.polarity ≠ ln.config.polarity then n.restart loss
  else if ln.pending.isSome then { n with change := none, mismatch := 0 }
  else n

/-- The presenter that names a line, and whether as its cue line (R108). -/
def Part.namingOf (s : Part) (l : LineId) : Option (PresId × Bool) :=
  match allPresenters.find? (fun k => (s.presenter k).settings.names (lineNo l)) with
  | some k => some (k, (s.presenter k).settings.cue == lineNo l)
  | none => none

/-- Pending configurations and presenter namings take effect (R166). -/
def Part.configureLines (s : Part) : Part :=
  s.forEach allLines (fun l t => t.onLine l (fun ln => ln.configured (t.namingOf l) t.trunkLoss))

/-! ### Step 3 of R167: the trunk-loss state (R174) -/

/-- The trunk-loss state that a lock state gives (R174). -/
def lossOf : Lock → TrunkLoss
  | .lost => .holding
  | .seeking _ | .locked | .flywheel _ => .normal

/-- The trunk-loss state taken from the lock state (R174). -/
def Part.updateLoss (s : Part) : Part := s.setTrunkLoss (lossOf s.port.lock)

/-! ### Step 4 of R167: presenter lamps (R170 to R172) -/

/-- The presenter an entry's story names (R42). -/
def Part.readBy (s : Part) (e : Option Entry) (k : PresId) : Bool :=
  match e with
  | some e => (s.record e.record).presenter? == some k
  | none => false

/-- A program contributes to a presenter's cue pattern (R170). -/
def Part.contributes (s : Part) (k : PresId) (p : ProgId) : Bool :=
  (s.runner p).state != .parked && s.readBy (s.onAirEntry p) k && (s.timing p).stage != .none

/-- The deciding contributors: the LIVE ones, or the REHEARSAL ones when no LIVE program contributes (R170). -/
def Part.deciders (s : Part) (k : PresId) : List ProgId :=
  let all := allPrograms.filter (fun p => s.contributes k p)
  let live := all.filter (fun p => (s.runner p).mode == .live)
  if live.isEmpty then all else live

/-- The deciding contributors with a stage, in program order. -/
def Part.withStage (s : Part) (k : PresId) (w : WrapStage) : List ProgId :=
  (s.deciders k).filter (fun p => (s.timing p).stage == w)

/-- The cue pattern of a presenter (R170). -/
def Part.cuePattern (s : Part) (k : PresId) : Pattern :=
  if !(s.withStage k .fast).isEmpty then .fast
  else if !(s.withStage k .slow).isEmpty then .slow
  else if !(s.withStage k .steady).isEmpty then .lit
  else .dark

/-- The stages the deciding contributors give, least urgent first. -/
def Part.stagesGiven (s : Part) (k : PresId) : List WrapStage :=
  [WrapStage.steady, WrapStage.slow, WrapStage.fast].filter (fun w => !(s.withStage k w).isEmpty)

/-- The deciding contributors give two or more different stages (R170). -/
def Part.inConflict (s : Part) (k : PresId) : Bool := 2 ≤ (s.stagesGiven k).length

/-- The program a conflict notice carries (R170). -/
def Part.conflictProgram (s : Part) (k : PresId) : Option ProgId :=
  match s.stagesGiven k with
  | [] => none
  | w :: _ => (s.withStage k w).head?

/-- The lowest-numbered line whose function in effect is CUE of a presenter (R170). -/
def Part.cueLineOf (s : Part) (k : PresId) : Option LineId := allLines.find? (fun l => (s.line l).fn == .cue k)

/-- The notice of a conflict that begins (R170). -/
def Part.raiseConflict (s : Part) (k : PresId) : Part :=
  if s.inConflict k = true ∧ (s.presenter k).conflict = false then
    match s.conflictProgram k, s.cueLineOf k with
    | some p, some l => s.raise .presenterConflict { program := some p, line := some (lineNo l) }
    | _, _ => s
  else s

/-- A presenter's flash phase moves on to a pattern (R171). -/
def Presenter.advance (k : Presenter) (pattern : Pattern) (again : Bool) : Presenter :=
  if k.pattern = pattern ∧ again = false then { k with count := k.count + 1 }
  else { k with pattern := pattern, count := 0 }

/-- A presenter's pattern, conflict and flash phase at step 4 (R170, R171). -/
def Part.presenterStep (s : Part) (k : PresId) : Part :=
  (s.raiseConflict k).onPresenter k (fun x =>
    { x.advance (s.cuePattern k) s.clock.rateStart with conflict := s.inConflict k })

/-- A program stands by a presenter (R172). -/
def Part.standsBy (s : Part) (k : PresId) (p : ProgId) : Bool :=
  (s.runner p).state != .parked && s.readBy (s.nextEntry p) k && (s.onAirEntry p).isSome
    && (match (s.timing p).rem with
        | some n => decide (n ≤ ((s.timing p).w2 : Int))
        | none => false)

/-- The level a STANDBY line requests (R172). -/
def Part.standbyLit (s : Part) (k : PresId) : Bool :=
  let live := allPrograms.filter (fun p => (s.runner p).mode == .live)
  let rehearsal := allPrograms.filter (fun p => (s.runner p).mode == .rehearsal)
  live.any (fun p => s.standsBy k p)
    || (!live.any (fun p => s.readBy (s.nextEntry p) k) && rehearsal.any (fun p => s.standsBy k p))

/-- A STANDBY line with the level its presenter gives at step 4 (R172). -/
def Part.lampRequest (s : Part) (ln : Line) : Line :=
  match ln.fn with
  | .standby k => { ln with requested := some (s.standbyLit k) }
  | _ => ln

/-- Step 4 of R167: presenter phases, requested, output and driven levels. -/
def Part.driveLines (s : Part) : Part :=
  let t := s.forEach allPresenters (fun k t => t.presenterStep k)
  Part.settleLines { t with lines := t.lines.map t.lampRequest }

/-- Steps 2 to 4 of R167. Lines are first recomputed from what the other blocks have changed at this frame start, so
that a KEEP line holds the level it had when step 3 began. -/
def Part.lineBankSteps (s : Part) : Part := (s.settleLines.configureLines.updateLoss).driveLines

/-! ### The line commands (R165, R168, R177) -/

/-- The function a SET_LINE names, or the position of the parameter at fault (R165). -/
def parseLineFn (code first second : Nat) : Except Nat LineFn :=
  let prog (f : ProgId → Except Nat LineFn) : Except Nat LineFn :=
    match progOf first with
    | some p => f p
    | none => .error 3
  let chan (f : ChanId → LineFn) : Except Nat LineFn :=
    match chanOf second with
    | some c => .ok (f c)
    | none => .error 4
  let pres (f : PresId → LineFn) : Except Nat LineFn :=
    match presOf first with
    | some k => .ok (f k)
    | none => .error 3
  match code with
  | 0 => .ok .unused
  | 1 => .ok .manualOut
  | 2 => prog (fun p => chan (fun c => .tally p c))
  | 3 => prog (fun p => chan (fun c => .rehearsalTally p c))
  | 4 => prog (fun p => .ok (.programOnAir p))
  | 5 => pres .cue
  | 6 => pres .standby
  | 7 => prog (fun p => .ok (.inputTake p))
  | 8 => prog (fun p => .ok (.inputHold p))
  | 9 => prog (fun p => .ok (.inputBreak p))
  | 10 => prog (fun p => if h : second < 16 then .ok (.inputFire p ⟨second, h⟩) else .error 4)
  | 11 => .ok .inputGeneral
  | _ => .error 2

/-- The line configuration a SET_LINE carries, or the position of the first parameter at fault after the line
number (R165). -/
def parseLineConfig (function first second polarity policy debounce : Nat) : Except Nat LineConfig :=
  match parseLineFn function first second with
  | .error i => .error i
  | .ok fn =>
    if polarity > 1 then .error 5
    else if policy > 1 then .error 6
    else if debounce < 1 ∨ debounce > 15 then .error 7
    else .ok { fn := fn, polarity := if polarity = 0 then .activeClosed else .activeOpen,
               policy := if policy = 0 then .keep else .safe, debounce := debounce }

/-- A command that names a line: a line of 0 or above 32 gives RANGE, detail 16 (R165, R168, R177). -/
def withLine (line : Byte) (s : Part) (f : LineId → Part × Reply) : Part × Reply :=
  match lineOf line.toNat with
  | none => (s, Reply.badParam 1)
  | some l => f l

/-- BUSY, detail 22, with the code of the function in effect (R168, R177). -/
def wrongFunction (ln : Line) : Reply := Reply.refuse .busy 22 (be1 ln.fn.code)

/-- SET_LINE (R165). -/
def cmdSetLine (line function first second polarity holdPolicy debounce : Byte) (s : Part) : Part × Reply :=
  withLine line s (fun l =>
    match parseLineConfig function.toNat first.toNat second.toNat polarity.toNat holdPolicy.toNat debounce.toNat with
    | .error i => (s, Reply.badParam i)
    | .ok cfg => (s.onLine l (fun ln => { ln with pending := some cfg }), Reply.done []))

/-- DRIVE_LINE (R168). -/
def cmdDriveLine (line level : Byte) (s : Part) : Part × Reply :=
  withLine line s (fun l =>
    if level.toNat > 1 then (s, Reply.badParam 2)
    else if (s.line l).fn ≠ .manualOut then (s, wrongFunction (s.line l))
    else (s.onLine l (fun ln => { ln with manual := level.toNat == 1 }), Reply.done []))

/-- ARM_LINE (R177). -/
def cmdArmLine (line : Byte) (s : Part) : Part × Reply :=
  withLine line s (fun l =>
    if (s.line l).fn.actionProgram.isNone then (s, wrongFunction (s.line l))
    else (s.onLine l (fun ln => { ln with armed := true }), Reply.done []))

/-- DISARM_LINE of an ARMED line drops its pending change; of a DISARMED one changes nothing (R177). -/
def Line.disarmed (ln : Line) : Line := if ln.armed then { ln with armed := false, change := none } else ln

/-- DISARM_LINE (R177). -/
def cmdDisarmLine (line : Byte) (s : Part) : Part × Reply :=
  withLine line s (fun l =>
    if (s.line l).fn.actionProgram.isNone then (s, wrongFunction (s.line l))
    else (s.onLine l Line.disarmed, Reply.done []))

end Sys2Proof.Machine
end

