-- ==== Sys2Proof/Machine/Cells.lean ====
section
/-! DEFINITION. Cells and their check (R2, R189): the fields a cell is read by, and the cells the part writes. -/

namespace Sys2Proof.Machine

/-! ### The check (R2) -/

/-- The 30 bytes a check covers, in trunk order (R189). -/
def cellBody (c : Cell) : List Byte :=
  [c.kind, c.dest, c.source, c.tag, c.fragment, c.length] ++ c.payload.toList

/-- The sum of big-endian 16-bit words. -/
def wordSum : List Byte → Nat
  | hi :: lo :: rest => beNat [hi, lo] + wordSum rest
  | [hi] => beNat [hi, 0]
  | [] => 0

/-- The check of 30 bytes: the ones' complement of their word sum modulo 65,536 (R2). -/
def checkOf (body : List Byte) : Half := ~~~(BitVec.ofNat 16 (wordSum body))

/-- The cell carries the check computed over its first 30 bytes (R2). -/
def cellGood (c : Cell) : Bool := c.check == checkOf (cellBody c)

/-! ### Cell kinds (1.1) -/

def kindEmpty : Nat := 0
def kindMarker : Nat := 1
def kindCommand : Nat := 2
def kindResponse : Nat := 3
def kindTrigger : Nat := 4
def kindDeviceReply : Nat := 5
def kindStatus : Nat := 6

/-- Kinds 7 to 255 are foreign (1.1). -/
def isForeign (c : Cell) : Bool := 7 ≤ c.kind.toNat

/-- The cell is a MARKER cell. -/
def isMarker (c : Cell) : Bool := c.kind.toNat == kindMarker

/-! ### The fields of a cell (R189) -/

/-- The fragment index, bits 0 to 2 of the fragment byte. -/
def fragIndex (c : Cell) : Nat := c.fragment.toNat % 8

/-- The last-fragment flag, bit 7 of the fragment byte. -/
def fragLast (c : Cell) : Bool := 128 ≤ c.fragment.toNat

/-- The payload bytes the cell's length takes in. -/
def cellData (c : Cell) : List Byte := c.payload.toList.take c.length.toNat

/-- A byte of the payload field, by its place in the cell (6 to 29). -/
def cellByte (c : Cell) (i : Nat) : Nat := (c.payload.toList.getD (i - 6) 0).toNat

/-! ### The cells the part writes -/

/-- A payload field: the bytes given, then zeros (R189). -/
def padded (bs : List Byte) : Vector Byte 24 := Vector.ofFn (fun i => bs.getD i.val 0)

/-- A cell of the part's, with its check (R2, R189). -/
def makeCell (kind dest source tag fragment : Nat) (bs : List Byte) : Cell :=
  let c : Cell :=
    { kind := BitVec.ofNat 8 kind, dest := BitVec.ofNat 8 dest, source := BitVec.ofNat 8 source,
      tag := BitVec.ofNat 8 tag, fragment := BitVec.ofNat 8 fragment, length := BitVec.ofNat 8 bs.length,
      payload := padded bs, check := 0 }
  { c with check := checkOf (cellBody c) }

/-- An EMPTY cell: 30 zero bytes, check 0xFFFF (R2). -/
def emptyCell : Cell := makeCell 0 0 0 0 0 []

/-- Cells a message payload is cut into: 24 bytes to every cell but the last, and one cell for an empty payload
(R192). -/
def fragmentCount (payload : List Byte) : Nat := max 1 ((payload.length + 23) / 24)

/-- The next cell of a response message due to go out (R19, R20). -/
def responseCell (node : Nat) (r : Response) : Cell :=
  let last := r.sent + 1 = fragmentCount r.payload
  makeCell kindResponse r.dest.toNat node r.tag.toNat (r.sent + if last then 128 else 0)
    ((r.payload.drop (24 * r.sent)).take 24)

/-- The trigger cell of a configured channel (R161, R190). -/
def triggerCell (node : Nat) (c : ChanId) (g : ChanConfig) (k : Current) : Cell :=
  makeCell kindTrigger g.node node k.serial 128
    (be1 (chanNo c) ++ be1 k.serial ++ be1 k.action.code ++ be1 ((k.program.map Fin.val).getD 255) ++ be2 k.param
      ++ be4 k.asset)

/-- The device reply a DEVICE_REPLY cell carries; one with a payload length below 7 is discarded (R190). -/
def readReply (c : Cell) : Option DeviceReply :=
  if c.length.toNat < 7 then none
  else
    let left := beNat ((c.payload.toList.drop 3).take 3)
    some { source := c.source.toNat, channel := cellByte c 6
           report := { acked := cellByte c 7, status := DevStatus.ofCode (cellByte c 8)
                       remaining := if left = 0xFFFFFF then none else some left
                       fault := cellByte c 12 } }

/-- The label a marker carries (R189). -/
def markerLabel (c : Cell) : Label :=
  { hh := cellByte c 6, mm := cellByte c 7, ss := cellByte c 8, ff := cellByte c 9 }

/-- The drop-frame flag of a marker, bit 0 of byte 10 (R189). -/
def markerDrop (c : Cell) : Bool := cellByte c 10 % 2 == 1

/-- The rate code of a marker (R189). -/
def markerRate (c : Cell) : Nat := cellByte c 11

/-- The frame sequence of a marker (R189). -/
def markerSequence (c : Cell) : Nat := cellByte c 12

end Sys2Proof.Machine
end

