-- ==== Sys2Proof/Machine/Flags.lean ====
section
/-! DEFINITION. The status flags and the status cell (R185, R191). -/

namespace Sys2Proof.Machine

/-- SATURATED of the status cell: any program's flag is set (R185). -/
def Part.anySaturated (s : Part) : Bool := allPrograms.any (fun p => (s.timing p).saturated)

/-- A flag as a bit of a byte. -/
def bitIf (b : Bool) (v : Nat) : Nat := if b then v else 0

/-- The flag byte: PAUSE, NOTICES_LOST, SATURATED in bits 0 to 2 (R191). -/
def Part.flagByte (s : Part) : Nat := bitIf s.intake.pause 1 + bitIf s.noticesLost 2 + bitIf s.anySaturated 4

/-- A program's state byte: the state code in bits 0 to 2, bit 7 set for REHEARSAL (R191). -/
def Part.stateByte (s : Part) (p : ProgId) : Nat := (s.runner p).state.code + bitIf (s.rehearsing p) 128

/-- O_show in whole seconds, 0 when absent (R37, R185). -/
def Part.showSeconds (s : Part) (p : ProgId) : Int :=
  match (s.timing p).oShow with
  | some f => toSeconds s.clock.rate f
  | none => 0

/-- A program's five bytes of the status cell (R191). -/
def Part.statusBytes (s : Part) (p : ProgId) : List Byte :=
  be1 (s.stateByte p) ++ be2 (tagOr0 (s.onAirEntry p)) ++ beInt2 (s.showSeconds p)

/-- The priority of the first notice, 0 when the queue is empty (R185). -/
def Part.topPriority (s : Part) : Nat := ((s.notices.head?).map (fun n => n.kind.priority)).getD 0

/-- The payload of the status cell (R191). -/
def Part.statusPayload (s : Part) : List Byte :=
  be1 s.port.lock.code ++ be1 s.flagByte ++ allPrograms.flatMap s.statusBytes ++ be1 s.notices.length
    ++ be1 s.topPriority

/-- The status cell: its tag is the frame count modulo 256 taken at the frame's start (R185, R191). -/
def Part.statusCell (s : Part) : Cell :=
  makeCell kindStatus 63 s.port.node s.port.frameTag 128 s.statusPayload

end Sys2Proof.Machine
end

