-- ==== Sys2Proof/Machine/Intake.lean ====
section
/-! DEFINITION. The Command Intake (R15 to R19): reassembly, the intake queue, PAUSE, and the reply queue. -/

namespace Sys2Proof.Machine

/-! ### The intake queue (R17) -/

/-- Most messages the intake queue holds (R17). -/
def intakeMax : Nat := 32

/-- Most messages the reply queue holds (R20). -/
def repliesMax : Nat := 16

/-- PAUSE at a level: set from 24, clear up to 8, kept between (R17). -/
def pauseAt (level : Nat) (now : Bool) : Bool := if 24 ≤ level then true else if level ≤ 8 then false else now

/-- The intake with another queue, and PAUSE as the level gives it (R17). -/
def Intake.withQueue (i : Intake) (q : List Message) : Intake :=
  { i with queue := q, pause := pauseAt q.length i.pause }

/-- A completed message joins the intake queue, or is lost with INTAKE_OVERRUN (R17). -/
def Part.join (s : Part) (m : Message) : Part :=
  if s.intake.queue.length < intakeMax then s.onIntake (fun i => i.withQueue (i.queue ++ [m]))
  else s.raise .intakeOverrun { source := some m.origin.source.toNat, tag := some m.origin.tag.toNat }

/-! ### Reassembly (R15, R16) -/

/-- A reassembly context changed. -/
def Part.setContext (s : Part) (i : Fin 4) (a : Option Assembly) : Part :=
  s.onIntake (fun k => { k with contexts := k.contexts.upd i (fun _ => a) })

/-- The context that assembles for a source. -/
def Intake.contextOf (k : Intake) (source : Byte) : Option (Fin 4) :=
  (List.finRange 4).find? (fun i => (k.contexts.at i).map Assembly.source == some source)

/-- The FREE context that starts a message: the lowest-numbered one. R15 names none of several, and the choice also fixes
the order of the FRAGMENT_TIMEOUT notices of one frame start (DESIGN CHOICE, assumption log 46). -/
def Intake.freeContext (k : Intake) : Option (Fin 4) :=
  (List.finRange 4).find? (fun i => (k.contexts.at i).isNone)

/-- A FRAGMENT_DROP notice (R15). -/
def Part.dropFragment (s : Part) (source : Byte) : Part :=
  s.raise .fragmentDrop { source := some source.toNat }

/-- The message a last fragment completes joins the queue. -/
def Part.complete (s : Part) (c : Cell) (before : List Byte) : Part :=
  s.join { origin := { source := c.source, tag := c.tag }, payload := before ++ cellData c }

/-- A context that starts with fragment 0 (R15). -/
def startAssembly (c : Cell) : Assembly :=
  { source := c.source, tag := c.tag, next := 1, payload := cellData c, age := 0 }

/-- A fragment without the last flag must carry 24 bytes (R15). -/
def shortFragment (c : Cell) : Bool := !fragLast c && c.length.toNat < 24

/-- A good COMMAND cell from a source for which no context assembles (R15). -/
def Part.receiveFresh (s : Part) (c : Cell) : Part :=
  if fragIndex c ≠ 0 then s.dropFragment c.source
  else if fragLast c then s.complete c []
  else if shortFragment c then s.dropFragment c.source
  else match s.intake.freeContext with
    | none => s.dropFragment c.source
    | some i => s.setContext i (some (startAssembly c))

/-- The fragment continues the message of a context (R15). -/
def continues (c : Cell) (a : Assembly) : Bool :=
  a.tag == c.tag && a.next == fragIndex c && !shortFragment c && (fragLast c || fragIndex c != 7)

/-- A good COMMAND cell from a source for which a context assembles (R15). -/
def Part.receiveInto (s : Part) (c : Cell) (i : Fin 4) (a : Assembly) : Part :=
  if fragIndex c = 0 then
    let dropped := (s.setContext i none).dropFragment c.source
    if fragLast c then dropped.complete c []
    else if shortFragment c then dropped
    else dropped.setContext i (some (startAssembly c))
  else if continues c a then
    if fragLast c then (s.setContext i none).complete c a.payload
    else s.setContext i (some { a with next := a.next + 1, payload := a.payload ++ cellData c, age := 0 })
  else (s.setContext i none).dropFragment c.source

/-- A good COMMAND cell handed over by the Trunk Port (R15). -/
def Part.receive (s : Part) (c : Cell) : Part :=
  match s.intake.contextOf c.source with
  | none => s.receiveFresh c
  | some i =>
    match s.intake.contexts.at i with
    | some a => s.receiveInto c i a
    | none => s.receiveFresh c

/-- The frame count at which a partial message times out (R16). -/
def fragmentAge : Nat := 4

/-- A context whose count has reached 4 is discarded (R16). -/
def Part.fragmentTimeout (s : Part) (i : Fin 4) : Part :=
  match s.intake.contexts.at i with
  | some a =>
    if fragmentAge ≤ a.age then (s.setContext i none).raise .fragmentTimeout { source := some a.source.toNat } else s
  | none => s

/-- At a frame start every ASSEMBLING context's count rises, and messages time out (R16). -/
def Part.ageContexts (s : Part) : Part :=
  let s1 := s.onIntake (fun k => { k with contexts := k.contexts.map (fun a => a.map (fun x => { x with age := x.age + 1 })) })
  s1.forEach (List.finRange 4) (fun i t => t.fragmentTimeout i)

/-! ### Responses (R19, R20) -/

/-- A response joins the reply queue (R19). -/
def Part.queueReply (s : Part) (o : Origin) (payload : List Byte) : Part :=
  s.onIntake (fun k =>
    { k with replies := k.replies ++ [{ dest := o.source, tag := o.tag, payload := payload, sent := 0 }] })

/-- A command's answer is queued (R18, R19, R192). -/
def Part.answer (s : Part) (o : Origin) (code : Nat) (r : Reply) : Part := s.queueReply o (r.payload code)

/-- The next response cell due is written: the oldest message advances, and leaves with its last cell (R20). -/
def Part.sendResponse (s : Part) : Part :=
  s.onIntake (fun k =>
    match k.replies with
    | [] => k
    | r :: rest =>
      if r.sent + 1 = fragmentCount r.payload then { k with replies := rest }
      else { k with replies := { r with sent := r.sent + 1 } :: rest })

/-- The next response cell due, none when no response waits (R12, R20). -/
def Part.dueCell (s : Part) : Option Cell := (s.intake.replies.head?).map (responseCell s.port.node)

/-- The Command Intake may take a message: none is being carried out and the reply queue has room (R18). -/
def Intake.mayTake (k : Intake) : Bool := k.carrying.isNone && k.replies.length < repliesMax

end Sys2Proof.Machine
end

