-- ==== Sys2Proof/Machine/Reads.lean ====
section
/-! DEFINITION. The READ command, target by target (R59, R184, R186 to R188), and ACK_NOTICE. The order of the fields
is the order in which the owning rule lists them; sizes are R192's. -/

namespace Sys2Proof.Machine

/-! ### Pieces -/

/-- Some items of a collection from a starting point, at most so many, behind their number (R187, R192). -/
def pageOf (l : List α) (start most : Nat) (f : α → List Byte) : List Byte :=
  let items := (l.drop start).take most
  be1 items.length ++ items.flatMap f

/-- The code of an enumerated field whose codes R192 does not list. -/
def openCode (field value : Nat) : List Byte := [Config.unstatedCode field value]

/-- The fields of `Config.unstatedCode`. -/
def fieldSensed : Nat := 1
def fieldDriven : Nat := 2
def fieldArming : Nat := 3
def fieldTrunkLoss : Nat := 4
def fieldPattern : Nat := 5
def fieldNaming : Nat := 6
def fieldLevel : Nat := 7

/-! ### STORY (R59) -/

/-- READ of STORY (R59). -/
def readStory (record : Byte) (offset : Half) (length : Byte) (s : Part) : Reply :=
  let n := length.toNat
  let a := offset.toNat
  if n = 0 ∨ n > 180 ∨ a + n > 768 then Reply.refusePlain .range []
  else
    let x := s.record (recOf record)
    Reply.done (be1 record.toNat ++ be2 a ++ be1 n ++ (List.range n).map (fun i => x.byteAt (a + i)))

/-! ### LIST (R187) -/

/-- An entry in SUMMARY form. -/
def entrySummary (e : Entry) : List Byte :=
  be2 e.tag ++ be1 e.record.val ++ be1 e.state.code ++ beFlag e.breaking ++ be1 e.airings

/-- An entry in FULL form: the fields of R62. -/
def entryFull (p : ProgId) (e : Entry) : List Byte :=
  be2 e.tag ++ be1 p.val ++ be1 e.record.val ++ be1 e.state.code ++ beFlag e.breaking ++ beOpt 4 be4 e.takeFrame
    ++ beOpt 4 be4 e.actual ++ be1 e.airings

/-- The LIST header. -/
def Part.listHeader (s : Part) (p : ProgId) : List Byte :=
  let l := s.rundown p
  be1 l.entries.length ++ be2 s.poolFree ++ be2 (l.mark.getD 0) ++ be2 (tagOr0 (s.nextEntry p))
    ++ be2 (tagOr0 (s.onAirEntry p)) ++ beFlag (s.runner p).pinned

/-- A READ that names a program. That its program is tested before its other parameters, so that a READ with both out of
range gives detail 1, is the model's choice (R186, assumption log 53). -/
def readProgramOr (program : Byte) (f : ProgId → Reply) : Reply :=
  match progOf program.toNat with
  | none => Reply.badProgram
  | some p => f p

/-- READ of LIST (R187, R193). -/
def readList (program start form : Byte) (s : Part) : Reply :=
  readProgramOr program (fun p =>
    let l := (s.rundown p).entries
    if start.toNat > 127 then Reply.badParam 3
    else if form.toNat = 0 then Reply.done (s.listHeader p ++ pageOf l start.toNat 29 entrySummary)
    else if form.toNat = 1 then Reply.done (s.listHeader p ++ pageOf l start.toNat 10 (entryFull p))
    else Reply.badParam 4)

/-! ### PROGRAM (R122, R187) -/

/-- The five settings of SET_PROGRAM. -/
def settingsBytes (m : Settings) : List Byte :=
  be1 m.priority ++ beOpt 4 be4 m.hardOut ++ be2 m.w1 ++ be2 m.w2 ++ beOpt 1 (fun (r : RecId) => be1 r.val) m.breakIn

/-- The program record (R83). -/
def runnerBytes (r : Runner) : List Byte :=
  be1 r.state.code ++ be1 r.mode.code ++ settingsBytes r.settings ++ beOpt 12 settingsBytes r.pending
    ++ beFlag r.pinned ++ beOpt 4 be4 r.held ++ be4 r.correction ++ beFlag r.runSeen ++ beFlag r.givenUp
    ++ beOpt 4 be4 r.showStart

/-- The timing results but for the pending rows (R122). One presence byte stands for O_next and its anchor's tag
(DEDUCED, assumption log 16). -/
def timingBytes (t : Timing) : List Byte :=
  beOpt 4 be4 t.p ++ beOpt 4 beInt4 t.rem ++ be4 t.e ++ beOpt 4 beInt4 t.oShow
    ++ beOpt 6 (fun (x : Int × Nat) => beInt4 x.1 ++ be2 x.2) t.oNext ++ be4 t.w1 ++ be4 t.w2 ++ be1 t.stage.code
    ++ beFlag t.saturated ++ be1 t.rows.length ++ be4 t.frame

/-- A pending row. -/
def pendingBytes (w : PendingRow) : List Byte := be2 w.tag ++ be4 w.p ++ be4 w.front ++ beOpt 4 be4 w.back

/-- READ of PROGRAM (R187, R193). -/
def readProgram (program start : Byte) (s : Part) : Reply :=
  readProgramOr program (fun p =>
    if start.toNat > 127 then Reply.badParam 3
    else Reply.done (runnerBytes (s.runner p) ++ timingBytes (s.timing p)
      ++ pageOf (s.timing p).rows start.toNat 6 pendingBytes))

/-! ### EVENTS (R127, R187) -/

/-- The due frame count of a row of the ON_AIR table while the elapsed is running (R127). -/
def Part.dueFrame (s : Part) (p : ProgId) (r : Row) : Option Nat :=
  match s.onAirEntry p, r.due with
  | some e, some d =>
    if s.elapsedRuns p then some (wrap32 (e.takeFrame.getD 0 + (s.runner p).correction + d)) else none
  | _, _ => none

/-- A row of a table, with its due frame count. -/
def rowBytes (due : Option Nat) (r : Row) : List Byte :=
  be1 r.anchor.code ++ be1 (chanNo r.channel) ++ be1 r.action.code ++ be2 r.param ++ be3 r.offset ++ be4 r.asset
    ++ beOpt 4 be4 r.due ++ be1 r.outcome.code ++ beOpt 1 be1 r.held ++ beOpt 2 be2 r.posting ++ beOpt 4 be4 due

/-- The ON_AIR table is the settled table of an ended airing (R127, R132). -/
def Part.settledTable (s : Part) (p : ProgId) : Bool := (s.firing p).onAir.tag != 0 && (s.onAirEntry p).isNone

/-- READ of EVENTS (R187, R193). -/
def readEvents (program table start : Byte) (s : Part) : Reply :=
  readProgramOr program (fun p =>
    match TableKind.ofCode table.toNat with
    | none => Reply.badParam 3
    | some t =>
      if start.toNat > 15 then Reply.badParam 4
      else
        let tb := (s.firing p).table t
        let due := fun r => if t = .onAir then s.dueFrame p r else none
        Reply.done (be2 tb.tag ++ be1 tb.rows.length ++ beFlag (decide (t = .onAir) && s.settledTable p)
          ++ pageOf tb.rows start.toNat 6 (fun r => rowBytes (due r) r)))

/-! ### CHANNEL (R188) -/

/-- A channel configuration; a slot of none is the byte 0 with no presence byte (DEDUCED, assumption log 16). -/
def chanConfigBytes (g : ChanConfig) : List Byte :=
  be1 g.kind.code ++ be1 g.slot ++ be1 g.node ++ beFlag g.shareable ++ be1 g.ackWindow ++ be1 g.rollGrace
    ++ be1 g.staleLimit

/-- A device report. -/
def reportBytes (r : Report) : List Byte :=
  be1 r.acked ++ be1 r.status.code ++ beOpt 4 be4 r.remaining ++ be1 r.fault

/-- A queued command: program, action, posting number, entry tag and age. -/
def queuedBytes (frame : Nat) (k : QCommand) : List Byte :=
  be1 k.program.val ++ be1 k.action.code ++ beOpt 2 be2 k.posting ++ be2 k.tag ++ be4 (since frame k.frame)

/-- A channel's current command and ack count. -/
def currentBytes (k : Current) (ack : Nat) : List Byte :=
  be1 k.serial ++ be1 k.action.code ++ beOpt 1 (fun (p : ProgId) => be1 p.val) k.program ++ be2 k.param ++ be4 k.asset
    ++ be1 k.standing.code ++ be1 ack

/-- A channel's state. An UNCONFIGURED channel has no configuration here, a slot that RESET_NODE has kept for it included
(DEDUCED, assumption log 44). -/
def channelBytes (frame : Nat) (ch : Channel) : List Byte :=
  beOpt 7 chanConfigBytes ch.config ++ beOpt 7 chanConfigBytes ch.pending ++ be1 ch.health.code ++ be1 ch.silence
    ++ beOpt 8 reportBytes ch.report ++ be1 ch.claim.code ++ beOpt 1 (fun (p : ProgId) => be1 p.val) ch.claim.program
    ++ be1 ch.waiting.length ++ ch.waiting.flatMap (fun w => be1 w.1.val ++ be4 w.2) ++ beOpt 4 be4 ch.returnReq
    ++ currentBytes ch.current ch.ackCount ++ ch.onStates.toList.flatMap beFlag
    ++ beOpt 11 (queuedBytes frame) ch.release ++ be1 ch.queue.length ++ ch.queue.flatMap (queuedBytes frame)

/-- READ of CHANNEL (R188). -/
def readChannel (channel : Byte) (s : Part) : Reply :=
  match chanOf channel.toNat with
  | none => Reply.badParam 2
  | some c => Reply.done (channelBytes s.clock.frame (s.channel c))

/-! ### LINES (R188) -/

/-- A line configuration. -/
def lineConfigBytes (g : LineConfig) : List Byte :=
  be1 g.fn.code ++ be1 g.fn.params.1 ++ be1 g.fn.params.2 ++ be1 g.polarity.code ++ be1 g.policy.code
    ++ be1 g.debounce

/-- Codes of a driven level: closed, open, undriven. -/
def drivenCode : Option Bool → Nat
  | some true => 0 | some false => 1 | none => 2

/-- Codes of a sensed level: closed, open. -/
def sensedCode (b : Bool) : Nat := if b then 0 else 1

/-- The code of an active or inactive level, which R192 does not list (assumption log 3). -/
def levelCode (b : Bool) : List Byte := openCode fieldLevel (if b then 0 else 1)

/-- A line's state (R164, R188). A level of none is an absent optional (DEDUCED, assumption log 16); the codes of active
and inactive are free (DESIGN CHOICE, assumption log 3). -/
def lineBytes (ln : Line) : List Byte :=
  lineConfigBytes ln.config ++ beOpt 6 lineConfigBytes ln.pending
    ++ beOpt 2 (fun (n : PresId × Bool) => be1 (presNo n.1) ++ openCode fieldNaming (if n.2 then 0 else 1)) ln.naming
    ++ be1 ln.fn.code ++ levelCode ln.manual ++ beOpt 1 levelCode ln.requested ++ beOpt 1 levelCode ln.output
    ++ openCode fieldDriven (drivenCode ln.driven) ++ openCode fieldSensed (sensedCode ln.sensed)
    ++ be1 ln.mismatch ++ beFlag ln.fault ++ levelCode ln.accepted
    ++ beOpt 2 (fun (x : Bool × Nat) => levelCode x.1 ++ be1 x.2) ln.change
    ++ openCode fieldArming (if ln.armed then 0 else 1)

/-- The code a trunk-loss state is passed to `openCode` by: NORMAL, HOLDING. -/
def lossCode : TrunkLoss → Nat
  | .normal => 0 | .holding => 1

/-- READ of LINES: the lines, then the trunk-loss state, as R188 lists them (R188, R193). -/
def readLines (start : Byte) (s : Part) : Reply :=
  match lineOf start.toNat with
  | none => Reply.badParam 2
  | some l => Reply.done (pageOf s.lines.toList l.val 5 lineBytes ++ openCode fieldTrunkLoss (lossCode s.trunkLoss))

/-! ### PRESENTERS (R188) -/

/-- A presenter's settings; a line of none is the byte 0 with no presence byte (DEDUCED, assumption log 16). -/
def presSettingsBytes (m : PresSettings) : List Byte := be1 m.readRate ++ be1 m.cue ++ be1 m.standby

/-- A flash count in its one byte. -/
def countByte (n : Nat) : Byte := if n < 256 then BitVec.ofNat 8 n else Config.overflowByte n

/-- A presenter's row. -/
def presenterBytes (k : Presenter) : List Byte :=
  presSettingsBytes k.settings ++ beOpt 3 presSettingsBytes k.pending ++ openCode fieldPattern k.pattern.code
    ++ [countByte k.count]

/-- READ of PRESENTERS (R188). -/
def readPresenters (s : Part) : Reply := Reply.done (s.presenters.toList.flatMap presenterBytes)

/-! ### NOTICES and ACK_NOTICE (R184) -/

/-- A notice with all its fields (R180). -/
def noticeBytes (n : Notice) : List Byte :=
  be1 n.kind.code ++ be1 n.kind.priority ++ beOpt 1 (fun (p : ProgId) => be1 p.val) n.subject.program
    ++ beOpt 2 be2 n.subject.tag ++ beOpt 1 be1 n.subject.channel ++ beOpt 1 be1 n.subject.line
    ++ beOpt 1 be1 n.subject.source ++ be4 n.first ++ be1 n.count

/-- READ of NOTICES (R184). -/
def readNotices (start : Byte) (s : Part) : Reply :=
  if start.toNat > 31 then Reply.badParam 2
  else Reply.done (be1 s.notices.length ++ beFlag s.noticesLost ++ pageOf s.notices start.toNat 10 noticeBytes)

/-- How many notices ACK_NOTICE removes (R184). -/
def ackCountOf (n : Nat) (q : List Notice) : Nat := if n = 0 ∨ q.length ≤ n then q.length else n

/-- ACK_NOTICE (R184). -/
def cmdAckNotice (n : Byte) (s : Part) : Part × Reply :=
  let k := ackCountOf n.toNat s.notices
  let q := s.notices.drop k
  let lost := if q.isEmpty then false else s.noticesLost
  (s.setNotices q lost, Reply.done (be1 k ++ be1 q.length ++ beFlag lost))

/-! ### NODE (R188) -/

/-- The run count of SEEKING. -/
def lockRun : Lock → Option Nat
  | .seeking n => some n
  | .locked | .flywheel _ | .lost => none

/-- The miss count of FLYWHEEL. -/
def lockMiss : Lock → Option Nat
  | .flywheel n => some n
  | .locked | .seeking _ | .lost => none

/-- A label in four bytes. -/
def labelBytes (l : Label) : List Byte := be1 l.hh ++ be1 l.mm ++ be1 l.ss ++ be1 l.ff

/-- The optional status slot of R12 behind its presence byte, and the reply slots behind their number (R192). -/
def slotBytes (m : SlotSet) : List Byte :=
  beOpt 1 be1 (if m.status = 0 then none else some m.status) ++ be1 m.replies.length ++ m.replies.flatMap be1

/-- READ of NODE (R188). -/
def readNode (s : Part) : Reply :=
  let t := s.port
  let c := s.clock
  let k := s.intake
  Reply.done (be1 t.node ++ be1 t.lock.code ++ beOpt 1 be1 (lockRun t.lock) ++ beOpt 1 be1 (lockMiss t.lock)
    ++ beFlag t.position.isSome ++ be1 t.sequence ++ be1 c.rate.code ++ beOpt 1 (fun (r : Rate) => be1 r.code) c.pendingRate
    ++ be4 c.day ++ labelBytes (dayLabel c.rate c.day) ++ be4 c.frame ++ slotBytes t.slots
    ++ beOpt 3 slotBytes t.pendingSlots ++ be1 k.queue.length ++ be1 k.replies.length
    ++ be1 (k.contexts.toList.filter Option.isSome).length ++ beFlag k.pause)

/-- READ of a target that R186 does not know (R193). -/
def readUnknown : Reply := Reply.badParam 1

end Sys2Proof.Machine
end

