-- ==== Sys2Proof/Machine/Commands.lean ====
section
/-! DEFINITION. The commands of the trunk blocks and the clock (R13, R21, R26), the command that a message carries
out (R18), and the taking of messages from the intake queue. -/

namespace Sys2Proof.Machine

/-! ### SET_SLOTS (R13) -/

/-- The slots a SET_SLOTS names; a status slot of 0 is none. -/
def namedSlots (status : Nat) (replies : List Nat) : List Nat := (if status = 0 then [] else [status]) ++ replies

/-- The new slots of a SET_SLOTS are accepted (R13). -/
def Part.slotsAccepted (s : Part) (status : Nat) (replies : List Nat) : Bool :=
  let l := namedSlots status replies
  replies.length ≤ 4 && l.all (fun n => 1 ≤ n && n ≤ 47) && decide l.Nodup && l.all (fun n => !s.channelSlots.contains n)

/-- SET_SLOTS (R13). -/
def cmdSetSlots (status : Byte) (replies : List Byte) (s : Part) : Part × Reply :=
  let rs := replies.map BitVec.toNat
  if s.slotsAccepted status.toNat rs then
    (s.onPort (fun t => { t with pendingSlots := some { status := status.toNat, replies := rs } }), Reply.done [])
  else (s, Reply.refusePlain .range [])

/-! ### SET_RATE (R26) -/

/-- The program is PARKED, or IDLE with no ON_AIR and no NEXT entry (R26). -/
def Part.quiet (s : Part) (p : ProgId) : Bool :=
  (s.runner p).state == .parked
    || ((s.runner p).state == .idle && (s.onAirEntry p).isNone && (s.nextEntry p).isNone)

/-- SET_RATE (R26). -/
def cmdSetRate (rate : Byte) (s : Part) : Part × Reply :=
  match Rate.ofCode rate.toNat with
  | none => (s, Reply.refusePlain .range [])
  | some r =>
    if allPrograms.all (fun p => s.quiet p) then
      (s.onClock (fun c => { c with pendingRate := some r }), Reply.done [])
    else (s, Reply.refusePlain .busy [])

/-! ### RESET_NODE (R21) -/

/-- The part after RESET_NODE (R21, R22, R39, R123, R163, R179). -/
def Part.resetNode (s : Part) : Part :=
  let rate := s.clock.rate
  { Part.reset s.port.node with
    port := { s.port with emptyUsed := 0, sequence := 0 }
    clock := { s.clock with frame := 0 }
    timings := Vector.replicate 4 (Timing.reset (secondsToFrames rate 30) (secondsToFrames rate 10))
    channels := s.channels.map Channel.resetNode
    lines := s.lines.map (fun ln => Line.reset ln.sensed)
    draws := s.draws }

/-- RESET_NODE: the reset, and DONE for its only reply (R21). -/
def cmdResetNode (s : Part) : Part × Reply := (s.resetNode, Reply.done [])

/-! ### The command of a message (R18) -/

/-- A READ is answered from the state as it stands, and changes none (R186). -/
def read (f : Part → Reply) (s : Part) : Part × Reply := (s, f s)

/-- What a command does, and its answer. -/
def Part.carryOut (s : Part) (c : Command) : Part × Reply :=
  match c with
  | .resetNode => cmdResetNode s
  | .setSlots st rs => cmdSetSlots st rs s
  | .setRate r => cmdSetRate r s
  | .readStory r a n => read (readStory r a n) s
  | .readList p i f => read (readList p i f) s
  | .readProgram p i => read (readProgram p i) s
  | .readEvents p t i => read (readEvents p t i) s
  | .readChannel c => read (readChannel c) s
  | .readLines l => read (readLines l) s
  | .readPresenters => read readPresenters s
  | .readNotices i => read (readNotices i) s
  | .readNode => read readNode s
  | .readUnknown _ => read (fun _ => readUnknown) s
  | .ackNotice n => cmdAckNotice n s
  | .openStory a b c => cmdOpenStory a b c s
  | .openStoryCopyFrom _ _ _ r => cmdOpenStoryCopyFrom r s
  | .writeStory r f i d => cmdWriteStory r f i d s
  | .closeStory r n => cmdCloseStory r n s
  | .freeStory r => cmdFreeStory r s
  | .insertEntry p t r a => cmdInsertEntry p t r a s
  | .appendEntries p l => cmdAppendEntries p l s
  | .moveEntry p t a => cmdMoveEntry p t a s
  | .dropEntry p t => cmdDropEntry p t s
  | .restoreEntry p t => cmdRestoreEntry p t s
  | .relinkEntry p t r => cmdRelinkEntry p t r s
  | .trimDone p => cmdTrimDone p s
  | .clearRundown p => cmdClearRundown p s
  | .setNext p t => cmdSetNext p t s
  | .take p t => cmdTake p t s
  | .hold p => cmdHold p s
  | .release p => cmdRelease p s
  | .endShow p => cmdEndShow p s
  | .park p => cmdPark p s
  | .unpark p => cmdUnpark p s
  | .breakIn p g r n => cmdBreakIn p g r n s
  | .setMode p m => cmdSetMode p m s
  | .setProgram p pr h w1 w2 g r => cmdSetProgram p pr h w1 w2 g r s
  | .programReset p => cmdProgramReset p s
  | .fire p i => cmdFire p i s
  | .setPresenter k r c t => cmdSetPresenter k r c t s
  | .configureChannel c k sl d sh a g st => cmdConfigureChannel c k sl d sh a g st s
  | .setLine l f a b p h d => cmdSetLine l f a b p h d s
  | .driveLine l v => cmdDriveLine l v s
  | .armLine l => cmdArmLine l s
  | .disarmLine l => cmdDisarmLine l s

/-- A carried-out command's lines are recomputed and driven at once (R167, R169), and its answer is queued (R18). -/
def answered (o : Origin) (code : Nat) (r : Part × Reply) : Part := r.1.settleLines.answer o code r.2

/-- The answer to a taken message that is no command: MALFORMED, echoing the code, or 0 for an empty payload
(R18). -/
def Part.malformed (s : Part) (o : Origin) (payload : List Byte) (detail : Nat) : Part :=
  s.answer o (payload.headD 0).toNat (Reply.refuse .malformed detail [])

/-- A taken message is carried out, or answered with MALFORMED (R18). -/
def Part.serve (s : Part) (m : Message) : Part :=
  match parseCommand m.payload with
  | .ok c => answered m.origin c.code (s.carryOut c)
  | .error d => s.malformed m.origin m.payload d

/-- The Command Intake takes messages, at most so many, while it may (R18). -/
def Part.drain : Nat → Part → Part
  | 0, s => s
  | n + 1, s =>
    match s.intake.queue with
    | [] => s
    | m :: rest =>
      if s.intake.mayTake then Part.drain n ((s.onIntake (fun k => k.withQueue rest)).serve m) else s

/-- The Command Intake takes what it may (R18). -/
def Part.takeMessages (s : Part) : Part := s.drain s.intake.queue.length

/-- A command message sent to an idle intake is carried out at once; otherwise it waits its turn (R17, R18). -/
def Part.submit (s : Part) (o : Origin) (c : Command) (r : Part × Reply) : Part :=
  if s.intake.queue.isEmpty = true ∧ s.intake.mayTake = true then answered o c.code r
  else (s.join { origin := o, payload := c.encode }).takeMessages

/-- A message of any payload sent to the intake (R17, R18). -/
def Part.submitPayload (s : Part) (o : Origin) (payload : List Byte) : Part :=
  (s.join { origin := o, payload := payload }).takeMessages

end Sys2Proof.Machine
end

