-- ==== Sys2Proof/Machine/FrameStart.lean ====
section
/-! DEFINITION. A frame start: what each block does, and in what order where the spec fixes one (R9, R25, R27, R87,
R112, R129, R157, R167). Where the spec says that either may come first, the order is a free value. -/

namespace Sys2Proof.Machine

/-! ### The open orders of a frame start (assumption log 6) -/

/-- The order of a frame start's work, where the spec leaves it open: the programs; the channels whose own work
(steps 2 to 4 of R157) comes before and after the runners' and Event Firing's (R126, R158); the lines in the order their input actions are
carried out, and those whose actions follow the runners' steps (R178). -/
structure Schedule where
  programs : List ProgId
  early    : List ChanId
  late     : List ChanId
  lines    : List LineId
  after    : List LineId
deriving DecidableEq, Repr

/-- An item put into a list in rising order of a key. -/
def insertByKey (key : α → Nat) (a : α) : List α → List α
  | [] => [a]
  | b :: rest => if key a ≤ key b then a :: b :: rest else b :: insertByKey key a rest

/-- A list in rising order of a key. -/
def sortByKey (key : α → Nat) (l : List α) : List α := l.foldr (insertByKey key) []

/-- The order drawn for a frame start, by its number. -/
def drawSchedule (n : Nat) : Schedule :=
  { programs := sortByKey (fun p => Config.programKey n p.val) allPrograms
    early := allChannels.filter (fun c => !Config.channelLate n c.val)
    late := allChannels.filter (fun c => Config.channelLate n c.val)
    lines := sortByKey (fun l => Config.lineKey n l.val) allLines
    after := allLines.filter (fun l => Config.lineLate n l.val) }

/-! ### Frame Clock and Trunk Port (R5, R9, R25, R27) -/

/-- The day frame advanced by one, modulo D (R25). -/
def Clock.nextDay (c : Clock) : Nat := (c.day + 1) % rateDay c.rate

/-- The Frame Clock advances; a locking marker sets the day frame, with MARKER_JUMP when that differs (R5, R25). -/
def Part.clockAdvance (s : Part) (locking : Option Nat) : Part :=
  let day := locking.getD s.clock.nextDay
  let s1 := s.onClock (fun c =>
    { c with prevDay := c.day, day := day, frame := wrap32 (c.frame + 1), rateStart := false })
  if day = s.clock.nextDay then s1 else s1.raise .markerJump {}

/-- Slot changes accepted since the last frame start take effect (R9, R163). -/
def Part.slotChange (s : Part) : Part :=
  let s1 := s.onPort (fun t => { t with slots := t.pendingSlots.getD t.slots, pendingSlots := none })
  { s1 with channels := s1.channels.map (fun ch => { ch with keptSlot := ch.keptNext.getD ch.keptSlot, keptNext := none }) }

/-- The Trunk Port's own work at a frame start that does or does not begin a LOCKED frame; the frame count it takes for
the status cells is the one the clock has advanced to (R6, R9, R185). -/
def Part.portStart (s : Part) (locked : Bool) : Part :=
  (s.onPort (fun t =>
    { t with endedLocked := t.frameWasLocked, lockedFrame := locked, frameWasLocked := locked,
             beganLocked := locked, frameTag := s.clock.frame % 256, emptyUsed := 0 })).slotChange

/-- The miss count at which the part goes LOST (R7). -/
def missMax : Nat := 12

/-- A miss count of 12 makes the part LOST, with TRUNK_LOST (R7). -/
def Part.trunkLost (s : Part) : Part :=
  match s.port.lock with
  | .flywheel n =>
    if missMax ≤ n then (s.onPort (fun t => { t with lock := .lost })).raise .trunkLost {} else s
  | .seeking _ | .locked | .lost => s

/-- The lock after a tick: from LOCKED the tick came before the marker, and in FLYWHEEL it counts a miss (R6, R7). -/
def lockAtTick : Lock → Lock
  | .locked => .flywheel 1
  | .flywheel n => .flywheel (n + 1)
  | .seeking n => .seeking n
  | .lost => .lost

/-- Every presenter's pattern begins again (R171). -/
def Part.restartFlashing (s : Part) : Part :=
  { s with presenters := s.presenters.map (fun k => { k with count := 0 }) }

/-- A pending rate takes effect; the presenters' patterns begin again under the new half-periods (R27, R171). -/
def Part.rateTakesEffect (s : Part) : Part :=
  match s.clock.pendingRate with
  | none => s
  | some r =>
    ((s.onClock (fun c =>
      { c with rate := r, pendingRate := none, day := 0, rateStart := true, tickRate := r })).onPort
      (fun t => { t with lock := .seeking 0, lockedFrame := false, frameWasLocked := false,
                         beganLocked := false })).restartFlashing

/-! ### Event Firing (R128, R129) -/

/-- The due elapsed of the FROM_END rows of the ON_AIR table, from the P of this frame start (step 2 of R129). -/
def Part.reckonEnds (s : Part) (p : ProgId) : Part :=
  match (s.timing p).p with
  | none => s
  | some planned => s.reckonRows p planned

/-- Event Firing's work for a program at a frame start (R129). -/
def Part.firingFrameStart (s : Part) (p : ProgId) : Part :=
  let s1 := (s.echoAdvance p).reckonEnds p
  let s2 := s1.forEach (s1.rowRange p .onAir) (fun i t => t.testHeld p .onAir i)
  let s3 := s2.forEach (s2.rowRange p .next) (fun i t => t.testHeld p .next i)
  s3.forEach (s3.rowRange p .onAir) (fun i t => t.postDue p i)

/-! ### The whole frame start -/

/-- The input actions of some lines, one after another (R178). -/
def Part.runActions (s : Part) (l : List (LineId × LineFn)) : Part := s.forEach l (fun a t => t.inputAction a.2)

/-- What the blocks behind the trunk and the clock do at a frame start, by a schedule, with the lines' samples. Pending
configurations take effect on every channel first (R146, R157); then the schedule says which channels do the rest of
their work before the runners and which after Event Firing. An input action that follows the runner's steps still comes
before the Timing Unit's reckoning, and the Timing Unit visits the programs A to D (DESIGN CHOICE, assumption logs 6 and
11). -/
def Part.blocksStart (s : Part) (sch : Schedule) (sensed : Word) : Part :=
  let s1 := (s.ageContexts.presentersTakeEffect).configsTakeEffect
  let s2 := s1.forEach sch.early (fun c t => t.channelFrameStart c)
  let s3 := s2.sampleLines sensed
  let acts := sch.lines.filterMap (fun l => (s3.line l).performs.map (fun fn => (l, fn)))
  let s4 := s3.acceptLevels.runActions (acts.filter (fun a => !sch.after.contains a.1))
  let s5 := s4.forEach sch.programs (fun p t => t.runnerFrameStart p)
  let s6 := s5.runActions (acts.filter (fun a => sch.after.contains a.1))
  let s7 := s6.forEach allPrograms (fun p t => t.timingFrameStart p)
  let s8 := s7.forEach sch.programs (fun p t => t.firingFrameStart p)
  let s9 := s8.forEach sch.late (fun c t => t.channelFrameStart c)
  s9.lineBankSteps

/-- A frame start, by a schedule. `locking` is the day frame of a marker that makes the part LOCKED from SEEKING;
`locked` says that the frame begun is a LOCKED frame. -/
def Part.frameStartBy (s : Part) (sch : Schedule) (locking : Option Nat) (locked : Bool) (sensed : Word) : Part :=
  ((((s.clockAdvance locking).portStart locked).trunkLost).rateTakesEffect).blocksStart sch sensed

/-- A frame start, its open orders drawn. -/
def Part.frameStart (s : Part) (locking : Option Nat) (locked : Bool) (sensed : Word) : Part :=
  s.addDraw.frameStartBy (drawSchedule s.draws) locking locked sensed

/-- A fall of the internal tick (R6, R7, R8, R24): with a re-phased tick it is always a frame start. -/
def Part.tick (s : Part) (sensed : Word) : Part :=
  (s.onPort (fun t => { t with lock := lockAtTick t.lock })).frameStart none false sensed

end Sys2Proof.Machine
end

