-- ==== Sys2Proof/Machine/Trunk.lean ====
section
/-! DEFINITION. The Trunk Port (R1 to R14, R20, R22): arriving markers and cells, owned slots, the reset pin. -/

namespace Sys2Proof.Machine

/-! ### Markers (R3 to R8) -/

/-- The cell leaves at Trunk Out. -/
def Part.forward (s : Part) (c : Cell) : Part := s.onPort (fun t => { t with trunkOut := some c })

/-- The slot position set (R1). -/
def Part.setPosition (s : Part) (n : Option Nat) : Part := s.onPort (fun t => { t with position := n })

/-- The lock state set. -/
def Part.setLock (s : Part) (l : Lock) : Part := s.onPort (fun t => { t with lock := l })

/-- A recognized marker is valid at a rate (R3). -/
def markerValid (r : Rate) (c : Cell) : Bool :=
  cellGood c && markerRate c == r.code && markerDrop c == rateDrop r && labelInRange r (markerLabel c)

/-- The day frame of a valid marker (R3, R31). -/
def markerDay (r : Rate) (c : Cell) : Nat := labelDay r (labelRead r (markerLabel c))

/-- The notices of a recognized marker: RATE_MISMATCH for another rate code under a good check, MARKER_ADJUSTED for
a valid marker whose label does not exist (R3, R31). -/
def Part.judgeNotices (s : Part) (c : Cell) : Part :=
  if cellGood c = true ∧ markerRate c ≠ s.clock.rate.code then s.raise .rateMismatch {}
  else if markerValid s.clock.rate c = true ∧ labelSkipped s.clock.rate (markerLabel c) = true then
    s.raise .markerAdjusted {}
  else s

/-- The lock after a frame's marker is missing, invalid or early (R4 to R8). -/
def lockAtMiss : Lock → Lock
  | .seeking _ => .seeking 0
  | .locked => .flywheel 1
  | .flywheel n => .flywheel n
  | .lost => .lost

/-- A marker misses its frame (R4 to R8). -/
def Part.missMarker (s : Part) : Part := s.setLock (lockAtMiss s.port.lock)

/-- A valid marker becomes the first of a run (R5, R6, R7, R8). -/
def Part.startRun (s : Part) (day : Nat) : Part :=
  s.onPort (fun t => { t with lock := .seeking 1, runDay := day, lockedFrame := false })

/-- A valid marker in SEEKING (R5). -/
def Part.seekMarker (s : Part) (run day : Nat) (sensed : Word) : Part :=
  if run ≠ 0 ∧ day = (s.port.runDay + 1) % rateDay s.clock.rate then
    if run + 1 = 3 then
      (s.onPort (fun t => { t with lock := .locked, runDay := day })).frameStart (some day) true sensed
    else s.onPort (fun t => { t with lock := .seeking (run + 1), runDay := day })
  else s.startRun day

/-- A valid marker in LOCKED (R6). -/
def Part.lockedMarker (s : Part) (day : Nat) (sensed : Word) : Part :=
  if day = s.clock.nextDay then s.frameStart none true sensed else s.startRun day

/-- A valid marker in FLYWHEEL (R7). -/
def Part.flywheelMarker (s : Part) (day : Nat) (sensed : Word) : Part :=
  if day = s.clock.nextDay then (s.setLock .locked).frameStart none true sensed
  else if day = s.clock.day then
    s.onPort (fun t => { t with lock := .locked, lockedFrame := true, frameWasLocked := true })
  else s.startRun day

/-- A valid marker by lock state (R5 to R8). -/
def Part.validMarker (s : Part) (day : Nat) (sensed : Word) : Part :=
  match s.port.lock with
  | .seeking run => s.seekMarker run day sensed
  | .locked => s.lockedMarker day sensed
  | .flywheel _ => s.flywheelMarker day sensed
  | .lost => s.startRun day

/-- A recognized marker: its slot is slot 0, and it is judged (R1, R3). -/
def Part.recognize (s : Part) (c : Cell) (sensed : Word) : Part :=
  let s1 := ((s.setPosition (some 1)).forward c).judgeNotices c
  if markerValid s.clock.rate c then
    (s1.onPort (fun t => { t with sequence := markerSequence c })).validMarker (markerDay s.clock.rate c) sensed
  else s1.missMarker

/-- An early marker (R4). -/
def Part.earlyMarker (s : Part) (c : Cell) : Part :=
  ((s.forward c).missMarker).onPort (fun t => { t with position := none, lockedFrame := false })

/-! ### Cells of a LOCKED frame (R10, R12, R20) -/

/-- What the part owns a slot for (R12). -/
inductive Owner
  | status | reply | channel (c : ChanId)
deriving DecidableEq, Repr

/-- The owner of a slot in the owned-slot map (R12). -/
def Part.ownerOf (s : Part) (slot : Nat) : Option Owner :=
  if slot = s.port.slots.status ∧ slot ≠ 0 then some .status
  else if s.port.slots.replies.contains slot then some .reply
  else (allChannels.find? (fun c => slot != 0 && (s.channel c).slot == slot)).map Owner.channel

/-- The cell is addressed to the part and of one of its kinds (R10). -/
def Part.addressed (s : Part) (c : Cell) : Bool := c.dest.toNat == s.port.node && !isForeign c

/-- An addressed cell is consumed (R10). -/
def Part.consume (s : Part) (c : Cell) : Part :=
  if cellGood c = false ∨ 24 < c.length.toNat then s.raise .cellCheck {}
  else if c.kind.toNat = kindCommand then s.receive c
  else if c.kind.toNat = kindDeviceReply then
    match readReply c with
    | some d => s.deviceReply d
    | none => s
  else s

/-- A slot of a channel is written: its trigger cell, or EMPTY while it is UNCONFIGURED (R161, R162). -/
def Part.writeChannelSlot (s : Part) (c : ChanId) : Part :=
  match (s.channel c).config with
  | some g => (s.forward (triggerCell s.port.node c g (s.channel c).current)).onChannel c Channel.carry
  | none => s.forward emptyCell

/-- The reply slot's turn has come: every slot before it in the list has passed in this frame, so it receives a cell in
the order of the list (R13, R20). -/
def Part.replyTurn (s : Part) (slot : Nat) : Bool :=
  (s.port.slots.replies.takeWhile (fun n => n != slot)).all (fun n => n < slot)

/-- A reply slot is written: in its turn the next response cell due, or EMPTY when none is due or its turn has not come
(R12, R13, R20; DEDUCED, assumption log 29). -/
def Part.writeReplySlot (s : Part) (slot : Nat) : Part :=
  match s.dueCell with
  | some out => if s.replyTurn slot then (s.forward out).sendResponse else s.forward emptyCell
  | none => s.forward emptyCell

/-- An owned slot is written as it passes (R12). -/
def Part.writeOwned (s : Part) (slot : Nat) : Owner → Part
  | .status => s.forward s.statusCell
  | .reply => s.writeReplySlot slot
  | .channel c => s.writeChannelSlot c

/-- EMPTY slots used for responses in a frame, at most (R20). -/
def emptyMax : Nat := 2

/-- An arriving EMPTY cell makes way for a response cell (R20). -/
def Part.lendsSlot (s : Part) (c : Cell) : Bool :=
  c.kind.toNat == kindEmpty && cellGood c && s.port.slots.replies.isEmpty && decide (s.port.emptyUsed < emptyMax)

/-- A slot the part does not own: a response cell, an EMPTY cell for a consumed one, or the cell as it came (R10,
R20). -/
def Part.passSlot (s : Part) (c : Cell) : Part :=
  match s.dueCell with
  | some out =>
    if s.lendsSlot c then
      ((s.forward out).sendResponse).onPort (fun t => { t with emptyUsed := t.emptyUsed + 1 })
    else s.forward (if s.addressed c then emptyCell else c)
  | none => s.forward (if s.addressed c then emptyCell else c)

/-- A cell of a LOCKED frame in a slot 1 to 47 (R10, R12). -/
def Part.lockedCell (s : Part) (slot : Nat) (c : Cell) : Part :=
  let s1 := if s.addressed c then s.consume c else s
  match s1.ownerOf slot with
  | some o => s1.writeOwned slot o
  | none => s1.passSlot c

/-- The position after a slot; a LOCKED frame ends with its slot 47 (R1, R6). -/
def Part.advanceSlot (s : Part) (slot : Nat) : Part :=
  s.onPort (fun t =>
    { t with position := some ((slot + 1) % 48), lockedFrame := t.lockedFrame && slot != 47 })

/-- A cell that is no marker in a slot 1 to 47: handled in a LOCKED frame, forwarded otherwise (R10, R11). What the
cell completed or made room for is then taken from the intake queue (R18). -/
def Part.slotCell (s : Part) (slot : Nat) (c : Cell) : Part :=
  let s1 := if s.port.lockedFrame then s.lockedCell slot c else s.forward c
  (s1.advanceSlot slot).settleLines.takeMessages

/-- A cell arriving at Trunk In (R1, R3, R4, R10, R11). -/
def Part.arrive (s : Part) (c : Cell) (sensed : Word) : Part :=
  match s.port.position with
  | none => if isMarker c = true ∧ cellGood c = true then s.recognize c sensed else s.forward c
  | some 0 =>
    if isMarker c then s.recognize c sensed else ((s.forward c).missMarker).setPosition (some 1)
  | some (n + 1) => if isMarker c then s.earlyMarker c else s.slotCell (n + 1) c

/-- A response cell would go out in place of a cell that arrives now (R20). -/
def Part.carriesResponse (s : Part) (c : Cell) : Bool :=
  match s.port.position with
  | none | some 0 => false
  | some (n + 1) =>
    s.port.lockedFrame && !isMarker c && !s.intake.replies.isEmpty
      && (match s.ownerOf (n + 1) with
          | some o => o == .reply && s.replyTurn (n + 1)
          | none => s.lendsSlot c)

/-- The samples a frame start would take of lines that have not changed since their last samples. -/
def Part.sensedNow (s : Part) : Word :=
  allLines.foldl (fun w l => w ||| (if (s.line l).sensed then (1 : Word) <<< l.val else 0)) 0

/-! ### The reset pin (R14, R22) -/

/-- The reset pin is asserted: the lines are undriven (R14, R179). -/
def Part.assertReset (s : Part) : Part :=
  (s.onPort (fun t => { t with resetAsserted := true })).undriveLines

/-- The reset pin is released: every block in its reset state, the straps read (R14, R22). The model's own draw
counter runs on. -/
def Part.releaseReset (s : Part) (straps : Fin 64) : Part := { Part.reset straps.val with draws := s.draws }

end Sys2Proof.Machine
end

