-- ==== Sys2Proof/Machine/Effects.lean ====
section
/-! DEFINITION. How the meaning of a row stands on the part: a command message, an event of a block, a pin. -/

namespace Sys2Proof.Machine

/-- The state with its part changed; the queue of waiting commands is kept. -/
def State.onPart (s : State) (f : Part → Part) : State := { s with toPart := f s.toPart }

/-- A part in reset, or a pure repeater, does nothing (R14). -/
def whenActive (f : Part → Part) (s : Part) : Part := if s.active then f s else s

/-- A command message, as the Command Intake has it complete: the command's own effect and answer are `f` (R17, R18). -/
def State.command (s : State) (o : Origin) (c : Command) (f : Part → Part × Reply) :
    Host.Outcome State Fault Refusal :=
  .next (s.onPart (whenActive (fun t => t.submit o c (f t))))

/-- An event of a block: its effect, and every line that reads what it changed (R167, R169). -/
def State.event (s : State) (f : Part → Part) : Host.Outcome State Fault Refusal :=
  .next (s.onPart (whenActive (fun t => (f t).settleLines)))

/-- A cell arriving at Trunk In: a part in reset or a repeater forwards it unchanged (R14). -/
def State.cellIn (s : State) (c : Cell) (f : Part → Part) : Host.Outcome State Fault Refusal :=
  .next (s.onPart (fun t => if t.active then (f t).settleLines else t.forward c))

end Sys2Proof.Machine
end

