-- ==== Sys2Proof/Machine/ExecDevices.lean ====
section
/-! DEFINITION. The rows of the presenters, the channels and the lines (chapters 6, 8 and 9). -/

namespace Sys2Proof.Machine

/-- SET_PRESENTER (R107). -/
def execSetPresenter (o : Origin) (presenter rate cue standby : Byte) (s : State) : Host.Outcome State Fault Refusal :=
  s.command o (.setPresenter presenter rate cue standby) (cmdSetPresenter presenter rate cue standby)

/-- CONFIGURE_CHANNEL (R145). -/
def execConfigureChannel (o : Origin) (channel kind slot node shareable ackWindow rollGrace staleLimit : Byte) (s : State) : Host.Outcome State Fault Refusal :=
  s.command o (.configureChannel channel kind slot node shareable ackWindow rollGrace staleLimit) (cmdConfigureChannel channel kind slot node shareable ackWindow rollGrace staleLimit)

/-- SET_LINE (R165). -/
def execSetLine (o : Origin) (line function first second polarity holdPolicy debounce : Byte) (s : State) : Host.Outcome State Fault Refusal :=
  s.command o (.setLine line function first second polarity holdPolicy debounce) (cmdSetLine line function first second polarity holdPolicy debounce)

/-- DRIVE_LINE (R168). -/
def execDriveLine (o : Origin) (line level : Byte) (s : State) : Host.Outcome State Fault Refusal :=
  s.command o (.driveLine line level) (cmdDriveLine line level)

/-- ARM_LINE (R177). -/
def execArmLine (o : Origin) (line : Byte) (s : State) : Host.Outcome State Fault Refusal :=
  s.command o (.armLine line) (cmdArmLine line)

/-- DISARM_LINE (R177). -/
def execDisarmLine (o : Origin) (line : Byte) (s : State) : Host.Outcome State Fault Refusal :=
  s.command o (.disarmLine line) (cmdDisarmLine line)

/-- Pending presenter settings take effect, and the lines they name are handed to the Line Bank (R107, R108). -/
def execPresenterSettingsTakeEffect (s : State) : Host.Outcome State Fault Refusal :=
  s.event Part.presentersTakeEffect

/-- A pending channel configuration takes effect or is discarded (R146). -/
def execChannelConfigurationTakesEffect (c : ChanId) (s : State) : Host.Outcome State Fault Refusal :=
  s.event (fun t => t.onChannel c Channel.configTakesEffect)

/-- Pending line configurations and presenter namings take effect (R166). -/
def execLineConfigurationTakesEffect (s : State) : Host.Outcome State Fault Refusal :=
  s.event Part.configureLines

/-- A RELEASING claim whose release CLEAR is settled passes (R154). -/
def execClaimPass (c : ChanId) (s : State) : Host.Outcome State Fault Refusal :=
  s.event (fun t => t.claimPass c)

/-- A channel issues its queue head or release CLEAR (R158). -/
def execCommandIssue (c : ChanId) (s : State) : Host.Outcome State Fault Refusal :=
  s.event (fun t => t.issue c)

/-- An overdue current command becomes NO_ACK (R159). -/
def execNoAck (c : ChanId) (s : State) : Host.Outcome State Fault Refusal :=
  s.event (fun t => t.noAck c)

/-- Stale commands of a channel are removed (R160). -/
def execStale (c : ChanId) (s : State) : Host.Outcome State Fault Refusal :=
  s.event (fun t => t.removeStale c)

/-- A channel whose silence count has reached 25 becomes SILENT (R149). -/
def execChannelSilent (c : ChanId) (s : State) : Host.Outcome State Fault Refusal :=
  s.event (fun t => t.silentEvent c)

/-- A line whose mismatch count has reached 3 has its fault flag set (R175). -/
def execLineFault (l : LineId) (s : State) : Host.Outcome State Fault Refusal :=
  s.event (fun t => t.lineFault l)

/-- A level whose debounce count is reached is accepted, with its input action (R176 to R178). -/
def execAcceptedLevelChange (l : LineId) (s : State) : Host.Outcome State Fault Refusal :=
  s.event (fun t => t.acceptLine l)

end Sys2Proof.Machine
end

