-- ==== Sys2Proof/Machine/ExecLists.lean ====
section
/-! DEFINITION. The rows of the Rundown Lists (chapter 4). -/

namespace Sys2Proof.Machine

/-- INSERT_ENTRY (R67). -/
def execInsertEntry (o : Origin) (program : Byte) (tag : Half) (record : Byte) (after : Half) (s : State) : Host.Outcome State Fault Refusal :=
  s.command o (.insertEntry program tag record after) (cmdInsertEntry program tag record after)

/-- APPEND_ENTRIES (R68). -/
def execAppendEntries (o : Origin) (program : Byte) (pairs : List (Half × Byte)) (s : State) : Host.Outcome State Fault Refusal :=
  s.command o (.appendEntries program pairs) (cmdAppendEntries program pairs)

/-- MOVE_ENTRY (R69). -/
def execMoveEntry (o : Origin) (program : Byte) (tag after : Half) (s : State) : Host.Outcome State Fault Refusal :=
  s.command o (.moveEntry program tag after) (cmdMoveEntry program tag after)

/-- DROP_ENTRY (R70). -/
def execDropEntry (o : Origin) (program : Byte) (tag : Half) (s : State) : Host.Outcome State Fault Refusal :=
  s.command o (.dropEntry program tag) (cmdDropEntry program tag)

/-- RESTORE_ENTRY (R71). -/
def execRestoreEntry (o : Origin) (program : Byte) (tag : Half) (s : State) : Host.Outcome State Fault Refusal :=
  s.command o (.restoreEntry program tag) (cmdRestoreEntry program tag)

/-- RELINK_ENTRY (R72). -/
def execRelinkEntry (o : Origin) (program : Byte) (tag : Half) (record : Byte) (s : State) : Host.Outcome State Fault Refusal :=
  s.command o (.relinkEntry program tag record) (cmdRelinkEntry program tag record)

/-- TRIM_DONE (R73). -/
def execTrimDone (o : Origin) (program : Byte) (s : State) : Host.Outcome State Fault Refusal :=
  s.command o (.trimDone program) (cmdTrimDone program)

/-- CLEAR_RUNDOWN (R74). -/
def execClearRundown (o : Origin) (program : Byte) (s : State) : Host.Outcome State Fault Refusal :=
  s.command o (.clearRundown program) (cmdClearRundown program)

/-- SET_NEXT (R79). -/
def execSetNext (o : Origin) (program : Byte) (tag : Half) (s : State) : Host.Outcome State Fault Refusal :=
  s.command o (.setNext program tag) (cmdSetNext program tag)

end Sys2Proof.Machine
end

