-- ==== Sys2Proof/Machine/ExecPrograms.lean ====
section
/-! DEFINITION. The rows of the Program Runners and of Event Firing (chapters 5 and 7). -/

namespace Sys2Proof.Machine

/-- TAKE (R88). -/
def execTake (o : Origin) (program : Byte) (expected : Half) (s : State) : Host.Outcome State Fault Refusal :=
  s.command o (.take program expected) (cmdTake program expected)

/-- HOLD (R89). -/
def execHold (o : Origin) (program : Byte) (s : State) : Host.Outcome State Fault Refusal :=
  s.command o (.hold program) (cmdHold program)

/-- RELEASE (R90). -/
def execRelease (o : Origin) (program : Byte) (s : State) : Host.Outcome State Fault Refusal :=
  s.command o (.release program) (cmdRelease program)

/-- END_SHOW (R98). -/
def execEndShow (o : Origin) (program : Byte) (s : State) : Host.Outcome State Fault Refusal :=
  s.command o (.endShow program) (cmdEndShow program)

/-- PARK (R99). -/
def execPark (o : Origin) (program : Byte) (s : State) : Host.Outcome State Fault Refusal :=
  s.command o (.park program) (cmdPark program)

/-- UNPARK (R101). -/
def execUnpark (o : Origin) (program : Byte) (s : State) : Host.Outcome State Fault Refusal :=
  s.command o (.unpark program) (cmdUnpark program)

/-- BREAK_IN (R95, R96). -/
def execBreakIn (o : Origin) (program given record takeNow : Byte) (s : State) : Host.Outcome State Fault Refusal :=
  s.command o (.breakIn program given record takeNow) (cmdBreakIn program given record takeNow)

/-- SET_MODE (R103). -/
def execSetMode (o : Origin) (program mode : Byte) (s : State) : Host.Outcome State Fault Refusal :=
  s.command o (.setMode program mode) (cmdSetMode program mode)

/-- SET_PROGRAM (R104). -/
def execSetProgram (o : Origin) (program priority : Byte) (hardOut : Word) (w1 w2 : Half) (given record : Byte) (s : State) : Host.Outcome State Fault Refusal :=
  s.command o (.setProgram program priority hardOut w1 w2 given record) (cmdSetProgram program priority hardOut w1 w2 given record)

/-- PROGRAM_RESET (R105). -/
def execProgramReset (o : Origin) (program : Byte) (s : State) : Host.Outcome State Fault Refusal :=
  s.command o (.programReset program) (cmdProgramReset program)

/-- FIRE (R133). -/
def execFire (o : Origin) (program index : Byte) (s : State) : Host.Outcome State Fault Refusal :=
  s.command o (.fire program index) (cmdFire program index)

/-- Pending settings take effect (R87). -/
def execProgramSettingsTakeEffect (p : ProgId) (s : State) : Host.Outcome State Fault Refusal :=
  s.event (fun t => t.settingsTakeEffect p)

/-- The automatic-end test of a program, and what it brings (R91, R92). -/
def execAutomaticEnd (p : ProgId) (s : State) : Host.Outcome State Fault Refusal :=
  s.event (fun t => t.automaticEnd p)

/-- The hard-start take of a program, when one is reached (R93). -/
def execHardStartTake (p : ProgId) (s : State) : Host.Outcome State Fault Refusal :=
  s.event (fun t => t.hardStartTake p)

/-- A missed hard start of the entry of a tag (R94). -/
def execHardStartMissed (p : ProgId) (tag : Half) (s : State) : Host.Outcome State Fault Refusal :=
  s.event (fun t => t.hardStartMissed p tag.toNat)

/-- The park conditions are tested in PARK_PENDING (R100). -/
def execParked (p : ProgId) (s : State) : Host.Outcome State Fault Refusal :=
  s.event (fun t => t.parkTest p)

/-- A due row of the ON_AIR table is posted (R129). -/
def execEventDuePost (p : ProgId) (row : Fin 16) (s : State) : Host.Outcome State Fault Refusal :=
  s.event (fun t => t.postDue p row.val)

/-- A held ROLL whose channel is ready is posted (R137). -/
def execRollPostedOnReady (p : ProgId) (table : TableKind) (row : Fin 16) (s : State) : Host.Outcome State Fault Refusal :=
  s.event (fun t => t.rollOnReady p table row.val)

/-- A held ROLL whose count has reached the grace is given up (R137). -/
def execNotReady (p : ProgId) (table : TableKind) (row : Fin 16) (s : State) : Host.Outcome State Fault Refusal :=
  s.event (fun t => t.rollNotReady p table row.val)

end Sys2Proof.Machine
end

