-- ==== Sys2Proof/Machine/ExecReads.lean ====
section
/-! DEFINITION. The READ rows and ACK_NOTICE (chapter 10). -/

namespace Sys2Proof.Machine

/-- READ of STORY (R59). -/
def execReadStory (o : Origin) (record : Byte) (offset : Half) (length : Byte) (s : State) : Host.Outcome State Fault Refusal :=
  s.command o (.readStory record offset length) (read (readStory record offset length))

/-- READ of LIST (R187). -/
def execReadList (o : Origin) (program start form : Byte) (s : State) : Host.Outcome State Fault Refusal :=
  s.command o (.readList program start form) (read (readList program start form))

/-- READ of PROGRAM (R187). -/
def execReadProgram (o : Origin) (program start : Byte) (s : State) : Host.Outcome State Fault Refusal :=
  s.command o (.readProgram program start) (read (readProgram program start))

/-- READ of EVENTS (R187). -/
def execReadEvents (o : Origin) (program table start : Byte) (s : State) : Host.Outcome State Fault Refusal :=
  s.command o (.readEvents program table start) (read (readEvents program table start))

/-- READ of CHANNEL (R188). -/
def execReadChannel (o : Origin) (channel : Byte) (s : State) : Host.Outcome State Fault Refusal :=
  s.command o (.readChannel channel) (read (readChannel channel))

/-- READ of LINES (R188). -/
def execReadLines (o : Origin) (start : Byte) (s : State) : Host.Outcome State Fault Refusal :=
  s.command o (.readLines start) (read (readLines start))

/-- READ of PRESENTERS (R188). -/
def execReadPresenters (o : Origin) (s : State) : Host.Outcome State Fault Refusal :=
  s.command o .readPresenters (read readPresenters)

/-- READ of NOTICES (R184). -/
def execReadNotices (o : Origin) (start : Byte) (s : State) : Host.Outcome State Fault Refusal :=
  s.command o (.readNotices start) (read (readNotices start))

/-- READ of NODE (R188). -/
def execReadNode (o : Origin) (s : State) : Host.Outcome State Fault Refusal :=
  s.command o .readNode (read readNode)

/-- ACK_NOTICE (R184). -/
def execAckNotice (o : Origin) (n : Byte) (s : State) : Host.Outcome State Fault Refusal :=
  s.command o (.ackNotice n) (cmdAckNotice n)

end Sys2Proof.Machine
end

