-- ==== Sys2Proof/Machine/ExecStories.lean ====
section
/-! DEFINITION. The story rows (chapter 3). -/

namespace Sys2Proof.Machine

/-- OPEN_STORY (R45). -/
def execOpenStory (o : Origin) (slug note : Byte) (cueText : Half) (s : State) : Host.Outcome State Fault Refusal :=
  s.command o (.openStory slug note cueText) (cmdOpenStory slug note cueText)

/-- OPEN_STORY with copy-from (R46). -/
def execOpenStoryCopyFrom (o : Origin) (slug note : Byte) (cueText : Half) (source : Byte) (s : State) : Host.Outcome State Fault Refusal :=
  s.command o (.openStoryCopyFrom slug note cueText source) (cmdOpenStoryCopyFrom source)

/-- WRITE_STORY of a named setting (R47, R48). -/
def execWriteStorySetting (o : Origin) (record field : Byte) (index : Half) (data : List Byte) (s : State) : Host.Outcome State Fault Refusal :=
  s.command o (.writeStory record field index data) (cmdWriteStory record field index data)

/-- WRITE_STORY of an event slot (R47, R49). -/
def execWriteStoryEventSlot (o : Origin) (record : Byte) (index : Half) (data : List Byte) (s : State) : Host.Outcome State Fault Refusal :=
  s.command o (.writeStory record 10 index data) (cmdWriteStoryEventSlot record index data)

/-- WRITE_STORY of a text field (R47, R50). -/
def execWriteStoryText (o : Origin) (record : Byte) (field : TextField) (index : Half) (data : List Byte) (s : State) : Host.Outcome State Fault Refusal :=
  s.command o (.writeStory record (BitVec.ofNat 8 field.code) index data) (cmdWriteStoryText record field index data)

/-- CLOSE_STORY (R53, R54). -/
def execCloseStory (o : Origin) (record : Byte) (expected : Half) (s : State) : Host.Outcome State Fault Refusal :=
  s.command o (.closeStory record expected) (cmdCloseStory record expected)

/-- FREE_STORY (R55). -/
def execFreeStory (o : Origin) (record : Byte) (s : State) : Host.Outcome State Fault Refusal :=
  s.command o (.freeStory record) (cmdFreeStory record)

end Sys2Proof.Machine
end

