-- ==== Sys2Proof/Machine/ExecTrunk.lean ====
section
/-! DEFINITION. The rows of the trunk, the clock and the intake (chapters 1 and 2). -/

namespace Sys2Proof.Machine

/-- The reset pin is asserted (R14, R179). -/
def execResetPinAssert (s : State) : Host.Outcome State Fault Refusal :=
  .next (s.onPart Part.assertReset)

/-- The reset pin is released with the straps at a node number (R14, R22). -/
def execResetPinRelease (straps : Fin 64) (s : State) : Host.Outcome State Fault Refusal :=
  .next (s.onPart (fun t => t.releaseReset straps))

/-- The internal frame tick falls, the lines reading as `sensed` (R6, R7, R24). -/
def execInternalTick (sensed : Word) (s : State) : Host.Outcome State Fault Refusal :=
  s.event (fun t => t.tick sensed)

/-- A MARKER cell arrives (R3 to R8); a cell of another kind arrives as in CELL_ARRIVAL. -/
def execMarkerArrival (cell : Cell) (sensed : Word) (s : State) : Host.Outcome State Fault Refusal :=
  s.cellIn cell (fun t => t.arrive cell sensed)

/-- A cell arrives (R1, R10, R11); a frame start it gave would find the lines as last sampled. -/
def execCellArrival (cell : Cell) (s : State) : Host.Outcome State Fault Refusal :=
  s.cellIn cell (fun t => t.arrive cell t.sensedNow)

/-- The miss count has reached 12: LOST, TRUNK_LOST, and the lines enter HOLDING (R7, R174). -/
def execTrunkLost (s : State) : Host.Outcome State Fault Refusal :=
  s.event (fun t =>
    match t.port.lock with
    | .flywheel n => if missMax ≤ n then t.trunkLost.updateLoss else t
    | .seeking _ | .locked | .lost => t)

/-- Accepted slot changes take effect (R9). -/
def execSlotChangeTakesEffect (s : State) : Host.Outcome State Fault Refusal :=
  s.event Part.slotChange

/-- A pending rate takes effect (R27). -/
def execRateTakesEffect (s : State) : Host.Outcome State Fault Refusal :=
  s.event Part.rateTakesEffect

/-- A context whose count has reached 4 is discarded (R16). -/
def execFragmentTimeout (context : Fin 4) (s : State) : Host.Outcome State Fault Refusal :=
  s.event (fun t => t.fragmentTimeout context)

/-- SET_SLOTS (R13). -/
def execSetSlots (o : Origin) (status : Byte) (replies : List Byte) (s : State) : Host.Outcome State Fault Refusal :=
  s.command o (.setSlots status replies) (cmdSetSlots status replies)

/-- SET_RATE (R26). -/
def execSetRate (o : Origin) (rate : Byte) (s : State) : Host.Outcome State Fault Refusal :=
  s.command o (.setRate rate) (cmdSetRate rate)

/-- RESET_NODE (R21). -/
def execResetNode (o : Origin) (s : State) : Host.Outcome State Fault Refusal :=
  s.command o .resetNode cmdResetNode

/-- A message that is no command: it is taken and answered with MALFORMED (R18). -/
def execUnknownCommand (o : Origin) (payload : List Byte) (s : State) : Host.Outcome State Fault Refusal :=
  .next (s.onPart (whenActive (fun t => t.submitPayload o payload)))

/-- A cell arrives in a slot that carries the next response cell due (R20). -/
def execResponseCellSend (cell : Cell) (s : State) : Host.Outcome State Fault Refusal :=
  s.event (fun t => if t.carriesResponse cell then t.arrive cell t.sensedNow else t)

end Sys2Proof.Machine
end

