-- ==== Sys2Proof/Machine/Dispatch.lean ====
section
/-! DEFINITION. One arm per command: its meaning. -/

namespace Sys2Proof.Machine

/-- The effect of a command on everything but the queue. -/
def exec (i : Instr) (s : State) : Host.Outcome State Fault Refusal :=
  match i with
  | .resetPinAssert => Sys2Proof.Machine.execResetPinAssert s
  | .resetPinRelease straps => Sys2Proof.Machine.execResetPinRelease straps s
  | .internalTick sensed => Sys2Proof.Machine.execInternalTick sensed s
  | .markerArrival cell sensed => Sys2Proof.Machine.execMarkerArrival cell sensed s
  | .cellArrival cell => Sys2Proof.Machine.execCellArrival cell s
  | .trunkLost => Sys2Proof.Machine.execTrunkLost s
  | .slotChangeTakesEffect => Sys2Proof.Machine.execSlotChangeTakesEffect s
  | .rateTakesEffect => Sys2Proof.Machine.execRateTakesEffect s
  | .fragmentTimeout context => Sys2Proof.Machine.execFragmentTimeout context s
  | .unknownCommand o payload => Sys2Proof.Machine.execUnknownCommand o payload s
  | .responseCellSend cell => Sys2Proof.Machine.execResponseCellSend cell s
  | .resetNode o => Sys2Proof.Machine.execResetNode o s
  | .setSlots o status replies => Sys2Proof.Machine.execSetSlots o status replies s
  | .setRate o rate => Sys2Proof.Machine.execSetRate o rate s
  | .readStory o record offset length => Sys2Proof.Machine.execReadStory o record offset length s
  | .readList o program start form => Sys2Proof.Machine.execReadList o program start form s
  | .readProgram o program start => Sys2Proof.Machine.execReadProgram o program start s
  | .readEvents o program table start => Sys2Proof.Machine.execReadEvents o program table start s
  | .readChannel o channel => Sys2Proof.Machine.execReadChannel o channel s
  | .readLines o start => Sys2Proof.Machine.execReadLines o start s
  | .readPresenters o => Sys2Proof.Machine.execReadPresenters o s
  | .readNotices o start => Sys2Proof.Machine.execReadNotices o start s
  | .readNode o => Sys2Proof.Machine.execReadNode o s
  | .ackNotice o n => Sys2Proof.Machine.execAckNotice o n s
  | .openStory o slug note cueText => Sys2Proof.Machine.execOpenStory o slug note cueText s
  | .openStoryCopyFrom o slug note cueText source => Sys2Proof.Machine.execOpenStoryCopyFrom o slug note cueText source s
  | .writeStorySetting o record field index data => Sys2Proof.Machine.execWriteStorySetting o record field index data s
  | .writeStoryEventSlot o record index data => Sys2Proof.Machine.execWriteStoryEventSlot o record index data s
  | .writeStoryText o record field index data => Sys2Proof.Machine.execWriteStoryText o record field index data s
  | .closeStory o record expected => Sys2Proof.Machine.execCloseStory o record expected s
  | .freeStory o record => Sys2Proof.Machine.execFreeStory o record s
  | .insertEntry o program tag record after => Sys2Proof.Machine.execInsertEntry o program tag record after s
  | .appendEntries o program pairs => Sys2Proof.Machine.execAppendEntries o program pairs s
  | .moveEntry o program tag after => Sys2Proof.Machine.execMoveEntry o program tag after s
  | .dropEntry o program tag => Sys2Proof.Machine.execDropEntry o program tag s
  | .restoreEntry o program tag => Sys2Proof.Machine.execRestoreEntry o program tag s
  | .relinkEntry o program tag record => Sys2Proof.Machine.execRelinkEntry o program tag record s
  | .trimDone o program => Sys2Proof.Machine.execTrimDone o program s
  | .clearRundown o program => Sys2Proof.Machine.execClearRundown o program s
  | .setNext o program tag => Sys2Proof.Machine.execSetNext o program tag s
  | .take o program expected => Sys2Proof.Machine.execTake o program expected s
  | .hold o program => Sys2Proof.Machine.execHold o program s
  | .release o program => Sys2Proof.Machine.execRelease o program s
  | .endShow o program => Sys2Proof.Machine.execEndShow o program s
  | .park o program => Sys2Proof.Machine.execPark o program s
  | .unpark o program => Sys2Proof.Machine.execUnpark o program s
  | .breakIn o program given record takeNow => Sys2Proof.Machine.execBreakIn o program given record takeNow s
  | .setMode o program mode => Sys2Proof.Machine.execSetMode o program mode s
  | .setProgram o program priority hardOut w1 w2 given record => Sys2Proof.Machine.execSetProgram o program priority hardOut w1 w2 given record s
  | .programSettingsTakeEffect p => Sys2Proof.Machine.execProgramSettingsTakeEffect p s
  | .programReset o program => Sys2Proof.Machine.execProgramReset o program s
  | .fire o program index => Sys2Proof.Machine.execFire o program index s
  | .setPresenter o presenter rate cue standby => Sys2Proof.Machine.execSetPresenter o presenter rate cue standby s
  | .presenterSettingsTakeEffect => Sys2Proof.Machine.execPresenterSettingsTakeEffect s
  | .configureChannel o channel kind slot node shareable ackWindow rollGrace staleLimit => Sys2Proof.Machine.execConfigureChannel o channel kind slot node shareable ackWindow rollGrace staleLimit s
  | .channelConfigurationTakesEffect c => Sys2Proof.Machine.execChannelConfigurationTakesEffect c s
  | .setLine o line function first second polarity holdPolicy debounce => Sys2Proof.Machine.execSetLine o line function first second polarity holdPolicy debounce s
  | .lineConfigurationTakesEffect => Sys2Proof.Machine.execLineConfigurationTakesEffect s
  | .driveLine o line level => Sys2Proof.Machine.execDriveLine o line level s
  | .armLine o line => Sys2Proof.Machine.execArmLine o line s
  | .disarmLine o line => Sys2Proof.Machine.execDisarmLine o line s
  | .automaticEnd p => Sys2Proof.Machine.execAutomaticEnd p s
  | .hardStartTake p => Sys2Proof.Machine.execHardStartTake p s
  | .hardStartMissed p tag => Sys2Proof.Machine.execHardStartMissed p tag s
  | .parked p => Sys2Proof.Machine.execParked p s
  | .eventDuePost p row => Sys2Proof.Machine.execEventDuePost p row s
  | .rollPostedOnReady p table row => Sys2Proof.Machine.execRollPostedOnReady p table row s
  | .notReady p table row => Sys2Proof.Machine.execNotReady p table row s
  | .claimPass c => Sys2Proof.Machine.execClaimPass c s
  | .commandIssue c => Sys2Proof.Machine.execCommandIssue c s
  | .noAck c => Sys2Proof.Machine.execNoAck c s
  | .stale c => Sys2Proof.Machine.execStale c s
  | .channelSilent c => Sys2Proof.Machine.execChannelSilent c s
  | .lineFault l => Sys2Proof.Machine.execLineFault l s
  | .acceptedLevelChange l => Sys2Proof.Machine.execAcceptedLevelChange l s

end Sys2Proof.Machine
end

