-- ==== Sys2Proof/WellFormed.lean ====
section
/-! DEFINITION. Which commands are well formed: what a trunk cell or a command message can be. -/

namespace Sys2Proof

/-- The cell is of kind MARKER (1.1). -/
def cellIsMarker (c : Cell) : Bool := c.kind == 1

/-- The data of a WRITE_STORY fits a message of 192 bytes behind its five (R47, R193). -/
def dataFits (data : List Byte) : Bool := data.length ≤ 187

/-- The field code is not one of the event slot and the three texts, which have rows of their own (R193). -/
def settingField (field : Byte) : Bool := field.toNat < 10 || 13 < field.toNat

/-- A payload that fits a message and is no command (R18). -/
def payloadUnknown (payload : List Byte) : Bool :=
  payload.length ≤ 192 && (match Machine.parseCommand payload with
    | .error _ => true
    | .ok _ => false)

/-- The reply slots of a SET_SLOTS fit a message behind its three bytes (R13). -/
def slotsFit (replies : List Byte) : Bool := replies.length ≤ 189

/-- A count of pairs APPEND_ENTRIES can carry (R68). -/
def pairsFit (pairs : List (Half × Byte)) : Bool := 1 ≤ pairs.length && pairs.length ≤ 30

/-- The command is well formed: its row's cell, message or event can carry these operands. -/
def wellFormed : Instr → Bool
  | .markerArrival cell _ => cellIsMarker cell
  | .cellArrival cell => !cellIsMarker cell
  | .responseCellSend cell => !cellIsMarker cell
  | .unknownCommand _ payload => payloadUnknown payload
  | .setSlots _ _ replies => slotsFit replies
  | .writeStorySetting _ _ field _ data => settingField field && dataFits data
  | .writeStoryEventSlot _ _ _ data => dataFits data
  | .writeStoryText _ _ _ _ data => dataFits data
  | .appendEntries _ _ pairs => pairsFit pairs
  | .hardStartMissed _ tag => tag != 0
  | .resetPinAssert | .resetPinRelease _ | .internalTick _ | .trunkLost | .slotChangeTakesEffect | .rateTakesEffect
  | .fragmentTimeout _ | .resetNode _ | .setRate _ _ | .readStory _ _ _ _ | .readList _ _ _ _ | .readProgram _ _ _
  | .readEvents _ _ _ _ | .readChannel _ _ | .readLines _ _ | .readPresenters _ | .readNotices _ _ | .readNode _
  | .ackNotice _ _ | .openStory _ _ _ _ | .openStoryCopyFrom _ _ _ _ _ | .closeStory _ _ _ | .freeStory _ _
  | .insertEntry _ _ _ _ _ | .moveEntry _ _ _ _ | .dropEntry _ _ _ | .restoreEntry _ _ _ | .relinkEntry _ _ _ _
  | .trimDone _ _ | .clearRundown _ _ | .setNext _ _ _ | .take _ _ _ | .hold _ _ | .release _ _ | .endShow _ _
  | .park _ _ | .unpark _ _ | .breakIn _ _ _ _ _ | .setMode _ _ _ | .setProgram _ _ _ _ _ _ _ _
  | .programSettingsTakeEffect _ | .programReset _ _ | .fire _ _ _ | .setPresenter _ _ _ _ _
  | .presenterSettingsTakeEffect | .configureChannel _ _ _ _ _ _ _ _ _ | .channelConfigurationTakesEffect _
  | .setLine _ _ _ _ _ _ _ _ | .lineConfigurationTakesEffect | .driveLine _ _ _ | .armLine _ _ | .disarmLine _ _
  | .automaticEnd _ | .hardStartTake _ | .parked _ | .eventDuePost _ _ | .rollPostedOnReady _ _ _ | .notReady _ _ _
  | .claimPass _ | .commandIssue _ | .noAck _ | .stale _ | .channelSilent _ | .lineFault _
  | .acceptedLevelChange _ => true

end Sys2Proof
end

