-- ==== Sys2Proof/Safety.lean ====
section
/-! DEFINITION. What counts as a safe run, and the vocabulary the statements are written in: what a step leaves alone,
what an answered command leaves behind, and the invariants of the part. -/

namespace Sys2Proof.Machine

/-- The machine answers a next state from here. -/
def stepsOn (s : State) : Prop := ∃ t, step s = .next t

/-! ### What a step leaves alone -/

/-- The pieces of the part, one for each field of `Part`; `notices` takes in NOTICES_LOST. -/
inductive Block
  | port | intake | clock | store | rundowns | runners | firings | airing | timings | presenters | channels | lines
  | trunkLoss | notices | draws
deriving DecidableEq, Repr

/-- Every block. -/
def allBlocks : List Block :=
  [.port, .intake, .clock, .store, .rundowns, .runners, .firings, .airing, .timings, .presenters, .channels, .lines,
   .trunkLoss, .notices, .draws]

/-- A block holds what it held. -/
def sameBlock (b : Block) (s t : Part) : Bool :=
  match b with
  | .port => decide (t.port = s.port)
  | .intake => decide (t.intake = s.intake)
  | .clock => decide (t.clock = s.clock)
  | .store => decide (t.store = s.store)
  | .rundowns => decide (t.rundowns = s.rundowns)
  | .runners => decide (t.runners = s.runners)
  | .firings => decide (t.firings = s.firings)
  | .airing => decide (t.airing = s.airing)
  | .timings => decide (t.timings = s.timings)
  | .presenters => decide (t.presenters = s.presenters)
  | .channels => decide (t.channels = s.channels)
  | .lines => decide (t.lines = s.lines)
  | .trunkLoss => decide (t.trunkLoss = s.trunkLoss)
  | .notices => decide (t.notices = s.notices ∧ t.noticesLost = s.noticesLost)
  | .draws => decide (t.draws = s.draws)

/-- Nothing but the named blocks has changed; the waiting commands are kept. -/
abbrev KeepsBut (changed : List Block) (s t : State) : Prop :=
  t.pending = s.pending ∧ ∀ b ∈ allBlocks, b ∉ changed → sameBlock b s.toPart t.toPart = true

/-- Every line shows what its function requests of the state as it now stands, under the trunk-loss policy, and is
otherwise as it was (R167, R169, R173, R174). -/
abbrev LinesFollow (s t : Part) : Prop :=
  ∀ l, t.line l = (s.line l).withLevels t.trunkLoss (t.requestedLevel (s.line l))

/-- What an event leaves: the named blocks may change, and the lines follow. -/
abbrev EventKeeps (changed : List Block) (s t : State) : Prop :=
  LinesFollow s.toPart t.toPart ∧ KeepsBut (.lines :: changed) s t

/-- The other programs keep their lists, program records and airing sets. -/
abbrev OthersKept (p : ProgId) (s t : Part) : Prop :=
  ∀ q, q ≠ p → t.rundown q = s.rundown q ∧ t.runner q = s.runner q ∧ t.airingSet q = s.airingSet q

/-- The notice queue and NOTICES_LOST are as after one notice raised. -/
abbrev Raises (k : NoticeKind) (sub : Subject) (s t : Part) : Prop :=
  (t.notices, t.noticesLost) = noticeRaise k sub s.clock.frame s.notices s.noticesLost

/-! ### Commands and their answers -/

/-- The Command Intake is idle with room for an answer, so a command message is carried out at once (R18). -/
abbrev Listening (s : Part) : Prop :=
  s.active = true ∧ s.intake.queue = [] ∧ s.intake.pause = false ∧ s.intake.carrying = none
    ∧ s.intake.replies.length < 16

/-- One response message has joined the reply queue, and the intake is otherwise as it was (R18, R19). -/
abbrev Replied (s t : Part) (o : Origin) (code : Nat) (r : Reply) : Prop :=
  t.intake = { s.intake with replies := s.intake.replies ++
    [{ dest := o.source, tag := o.tag, payload := r.payload code, sent := 0 }] }

/-- What a command leaves: its response, the lines that follow, and nothing else changed but the named blocks. -/
abbrev Answers (changed : List Block) (s t : State) (o : Origin) (code : Nat) (r : Reply) : Prop :=
  Replied s.toPart t.toPart o code r ∧ LinesFollow s.toPart t.toPart ∧ KeepsBut (.intake :: .lines :: changed) s t

/-- What a command that changes lines leaves: one line changed by its command, and every line then following. -/
abbrev LineAnswers (l : LineId) (f : Line → Line) (s t : State) (o : Origin) (code : Nat) (r : Reply) : Prop :=
  Replied s.toPart t.toPart o code r ∧ KeepsBut [.intake, .lines] s t
    ∧ ∀ m, let ln := if m = l then f (s.line m) else s.line m
           t.line m = ln.withLevels t.trunkLoss (t.requestedLevel ln)

/-- The command answered RANGE, BUSY or another refusal, and nothing else has happened (R19). -/
abbrev Refused (i : Instr) (s : State) (o : Origin) (code : Nat) (r : Reply) : Prop :=
  ∃ t, exec i s = .next t ∧ Answers [] s t o code r

/-- The message a command row sends: its origin and payload (R192, R193). -/
def messageOf : Instr → Option (Origin × List Byte)
  | .unknownCommand o payload => some (o, payload)
  | .resetNode o => some (o, Command.resetNode.encode)
  | .setSlots o a b => some (o, (Command.setSlots a b).encode)
  | .setRate o a => some (o, (Command.setRate a).encode)
  | .readStory o a b c => some (o, (Command.readStory a b c).encode)
  | .readList o a b c => some (o, (Command.readList a b c).encode)
  | .readProgram o a b => some (o, (Command.readProgram a b).encode)
  | .readEvents o a b c => some (o, (Command.readEvents a b c).encode)
  | .readChannel o a => some (o, (Command.readChannel a).encode)
  | .readLines o a => some (o, (Command.readLines a).encode)
  | .readPresenters o => some (o, Command.readPresenters.encode)
  | .readNotices o a => some (o, (Command.readNotices a).encode)
  | .readNode o => some (o, Command.readNode.encode)
  | .ackNotice o a => some (o, (Command.ackNotice a).encode)
  | .openStory o a b c => some (o, (Command.openStory a b c).encode)
  | .openStoryCopyFrom o a b c d => some (o, (Command.openStoryCopyFrom a b c d).encode)
  | .writeStorySetting o a b c d => some (o, (Command.writeStory a b c d).encode)
  | .writeStoryEventSlot o a b c => some (o, (Command.writeStory a 10 b c).encode)
  | .writeStoryText o a f b c => some (o, (Command.writeStory a (BitVec.ofNat 8 f.code) b c).encode)
  | .closeStory o a b => some (o, (Command.closeStory a b).encode)
  | .freeStory o a => some (o, (Command.freeStory a).encode)
  | .insertEntry o a b c d => some (o, (Command.insertEntry a b c d).encode)
  | .appendEntries o a b => some (o, (Command.appendEntries a b).encode)
  | .moveEntry o a b c => some (o, (Command.moveEntry a b c).encode)
  | .dropEntry o a b => some (o, (Command.dropEntry a b).encode)
  | .restoreEntry o a b => some (o, (Command.restoreEntry a b).encode)
  | .relinkEntry o a b c => some (o, (Command.relinkEntry a b c).encode)
  | .trimDone o a => some (o, (Command.trimDone a).encode)
  | .clearRundown o a => some (o, (Command.clearRundown a).encode)
  | .setNext o a b => some (o, (Command.setNext a b).encode)
  | .take o a b => some (o, (Command.take a b).encode)
  | .hold o a => some (o, (Command.hold a).encode)
  | .release o a => some (o, (Command.release a).encode)
  | .endShow o a => some (o, (Command.endShow a).encode)
  | .park o a => some (o, (Command.park a).encode)
  | .unpark o a => some (o, (Command.unpark a).encode)
  | .breakIn o a b c d => some (o, (Command.breakIn a b c d).encode)
  | .setMode o a b => some (o, (Command.setMode a b).encode)
  | .setProgram o a b c d e f g => some (o, (Command.setProgram a b c d e f g).encode)
  | .programReset o a => some (o, (Command.programReset a).encode)
  | .fire o a b => some (o, (Command.fire a b).encode)
  | .setPresenter o a b c d => some (o, (Command.setPresenter a b c d).encode)
  | .configureChannel o a b c d e f g h => some (o, (Command.configureChannel a b c d e f g h).encode)
  | .setLine o a b c d e f g => some (o, (Command.setLine a b c d e f g).encode)
  | .driveLine o a b => some (o, (Command.driveLine a b).encode)
  | .armLine o a => some (o, (Command.armLine a).encode)
  | .disarmLine o a => some (o, (Command.disarmLine a).encode)
  | _ => none

/-! ### Reset values of the blocks -/

/-- A program's timing results are empty, with thresholds in frames (R123). -/
abbrev TimingEmpty (t : Timing) (w1 w2 : Nat) : Prop :=
  t.p = none ∧ t.rem = none ∧ t.rows = [] ∧ t.e = 0 ∧ t.oShow = none ∧ t.oNext = none ∧ t.w1 = w1 ∧ t.w2 = w2
    ∧ t.stage = .none ∧ t.saturated = false

/-- A channel holds nothing of what R163 clears: all but its slots. -/
abbrev ChannelEmpty (ch : Channel) : Prop :=
  ch.config = none ∧ ch.pending = none ∧ ch.health = .unconfigured ∧ ch.silence = 0 ∧ ch.ackCount = 0
    ∧ ch.report = none ∧ ch.claim = .free ∧ ch.waiting = [] ∧ ch.returnReq = none ∧ ch.queue = [] ∧ ch.release = none
    ∧ (ch.current.serial = 0 ∧ ch.current.action = .clear ∧ ch.current.program = none ∧ ch.current.param = 0
        ∧ ch.current.asset = 0 ∧ ch.current.standing = .acked)
    ∧ ∀ p, ch.onStates.at p = false

/-- A line holds what R179 gives it, with a sensed level. -/
abbrev LineEmpty (ln : Line) (sensed : Bool) : Prop :=
  ln.config = { fn := .unused, polarity := .activeClosed, policy := .safe, debounce := 2 } ∧ ln.pending = none
    ∧ ln.naming = none ∧ ln.manual = false ∧ ln.requested = none ∧ ln.output = none ∧ ln.driven = none
    ∧ ln.mismatch = 0 ∧ ln.fault = false ∧ ln.accepted = false ∧ ln.change = none ∧ ln.armed = false
    ∧ ln.sensed = sensed

/-- A presenter holds what R108 and R179 give it. -/
abbrev PresenterEmpty (k : Presenter) : Prop :=
  k.settings = { readRate := 24, cue := 0, standby := 0 } ∧ k.pending = none ∧ k.pattern = .dark ∧ k.count = 0
    ∧ k.conflict = false

/-! ### Rows of the table -/

/-- The row is the reset pin or a cell at Trunk In, the only things a pure repeater acts on (R14). -/
def isPinOrCell : Instr → Bool
  | .resetPinAssert | .resetPinRelease _ | .markerArrival _ _ | .cellArrival _ => true
  | _ => false

/-- The row gives a frame start: a fall of the internal tick, or the recognized and valid marker that R5 to R7 take as
one. -/
def GivesFrameStart (i : Instr) (s : Part) : Prop :=
  match i with
  | .internalTick _ => True
  | .markerArrival c _ =>
    isMarker c = true ∧ (s.port.position = none ∨ s.port.position = some 0) ∧ markerValid s.clock.rate c = true
      ∧ (match s.port.lock with
         | .locked | .flywheel _ => markerDay s.clock.rate c = (s.clock.day + 1) % rateDay s.clock.rate
         | .seeking n => n = 2 ∧ markerDay s.clock.rate c = (s.port.runDay + 1) % rateDay s.clock.rate
         | .lost => False)
  | _ => False

/-- A command that a message can carry: its lists fit and its READ target is one of R186 or an unknown one (R47, R68,
R193). -/
def Command.sendable : Command → Bool
  | .setSlots _ rs => rs.length ≤ 189
  | .writeStory _ _ _ d => d.length ≤ 187
  | .appendEntries _ ps => 1 ≤ ps.length && ps.length ≤ 30
  | .readUnknown t => 8 < t.toNat
  | _ => true

/-! ### Lists of entries -/

/-- The list after next selection with no pin and no park: of the entries that wait to be aired, the first after the
take mark is NEXT and every other one is PENDING (R63, R77). -/
def Rundown.reselected (l : Rundown) : List Entry :=
  let choice := (l.afterMark.find? Entry.waits).map Entry.tag
  l.entries.map (fun e =>
    if e.waits then { e with state := if choice = some e.tag then .next else .pending } else e)

/-- The list after next selection in a program: a pin keeps it, and a parking program has no NEXT entry (R77). -/
def Part.selection (s : Part) (p : ProgId) (l : Rundown) : Rundown :=
  if (s.runner p).pinned then l
  else if parking (s.runner p).state then l
  else { l with entries := l.reselected }

/-- Why a new entry with a tag and a record would be refused once some pairs stand at the tail of a program's list, as
result and detail; none when it passes (steps 2, 3 and 5 to 7 of R67, R68). -/
def Part.creationFault (s : Part) (p : ProgId) (placed : List (Half × Byte)) (x : Half × Byte) :
    Option (ResultCode × Nat) :=
  let l := (s.rundown p).entries
  let total := (allPrograms.map (fun q => (s.rundown q).entries.length)).sum
  let r := s.record x.2.toFin
  if x.1.toNat = 0 ∨ 65280 ≤ x.1.toNat then some (.range, 2)
  else if x.1.toNat ∈ l.map Entry.tag ∨ x.1 ∈ placed.map Prod.fst then some (.range, 3)
  else if 128 ≤ l.length + placed.length then some (.full, 8)
  else if 256 ≤ total + placed.length then some (.full, 9)
  else match r.state with
    | .free => some (.notFound, 10)
    | .opened => some (.busy, 10)
    | .ready => if 255 ≤ r.links + (placed.filter (fun y => y.2 == x.2)).length then some (.full, 10) else none

/-- The entry a pair creates (R61, R67). -/
def createdBy (x : Half × Byte) : Entry :=
  { tag := x.1.toNat, record := x.2.toFin, state := .pending, breaking := false, takeFrame := none, actual := none,
    airings := 0 }

/-- A split of a list where an entry placed after a tag goes, or at the head for the tag 0 (R67, R69). -/
abbrev SplitsAfter (l : List Entry) (after : Nat) (a b : List Entry) : Prop :=
  l = a ++ b ∧ (after = 0 → a = []) ∧ (after ≠ 0 → (a.getLast?).map Entry.tag = some after)

/-- A record after some of its links are removed (R57). -/
def Record.without (r : Record) (n : Nat) : Record :=
  if n = 0 then r
  else if r.links - n = 0 ∧ r.retire = true then Record.free
  else { r with links := r.links - n }

/-- The data of a list command answered with DONE, read from the state it leaves (R65). -/
def Part.listReport (s : Part) (p : ProgId) : List Byte :=
  be1 (s.rundown p).entries.length
    ++ be2 (256 - (allPrograms.map (fun q => (s.rundown q).entries.length)).sum)
    ++ be2 (match s.nextEntry p with | some e => e.tag | none => 0)

/-- The data of a running command answered with DONE, read from the state it leaves (R84). -/
def Part.runReport (s : Part) (p : ProgId) : List Byte :=
  be1 (s.runner p).state.code ++ be2 (match s.onAirEntry p with | some e => e.tag | none => 0)
    ++ be2 (match s.nextEntry p with | some e => e.tag | none => 0)

/-- What a command on one program's list may change: that list and its effects on the program's tables, channels and
notices; the other programs' lists and records, the stories' content and everything else are kept. -/
abbrev ListKeeps (p : ProgId) (s t : State) : Prop :=
  KeepsBut [.intake, .lines, .store, .rundowns, .runners, .firings, .channels, .notices] s t
    ∧ OthersKept p s.toPart t.toPart
    ∧ t.runner p = { s.runner p with state := (t.runner p).state, pinned := (t.runner p).pinned,
                                     givenUp := (t.runner p).givenUp }

/-- The program, and the command code, of a command row that carries one. -/
def programOf : Instr → Option (Origin × Nat × Byte)
  | .readList o a _ _ => some (o, 0x04, a)
  | .readProgram o a _ => some (o, 0x04, a)
  | .readEvents o a _ _ => some (o, 0x04, a)
  | .insertEntry o a _ _ _ => some (o, 0x20, a)
  | .appendEntries o a _ => some (o, 0x21, a)
  | .moveEntry o a _ _ => some (o, 0x22, a)
  | .dropEntry o a _ => some (o, 0x23, a)
  | .restoreEntry o a _ => some (o, 0x24, a)
  | .relinkEntry o a _ _ => some (o, 0x25, a)
  | .trimDone o a => some (o, 0x26, a)
  | .clearRundown o a => some (o, 0x27, a)
  | .setNext o a _ => some (o, 0x28, a)
  | .take o a _ => some (o, 0x30, a)
  | .hold o a => some (o, 0x31, a)
  | .release o a => some (o, 0x32, a)
  | .endShow o a => some (o, 0x33, a)
  | .park o a => some (o, 0x34, a)
  | .unpark o a => some (o, 0x35, a)
  | .breakIn o a _ _ _ => some (o, 0x36, a)
  | .setMode o a _ => some (o, 0x37, a)
  | .setProgram o a _ _ _ _ _ _ => some (o, 0x38, a)
  | .programReset o a => some (o, 0x39, a)
  | .fire o a _ => some (o, 0x3A, a)
  | _ => none

/-- A program's list and record are in a legal state (R62 to R64, R76, R80, R85). -/
abbrev ProgramOk (s : Part) (p : ProgId) : Prop :=
  let l := s.rundown p
  let st := (s.runner p).state
  (l.entries.map Entry.tag).Nodup
    ∧ (∀ e ∈ l.entries, 0 < e.tag)
    ∧ (l.entries.filter (fun e => e.state == .next)).length ≤ 1
    ∧ (l.entries.filter (fun e => e.state == .onAir)).length ≤ 1
    ∧ (∀ m, l.mark = some m → m ∈ l.entries.map Entry.tag)
    ∧ (∀ e ∈ l.entries, e.state = .onAir → l.mark = some e.tag)
    ∧ ((s.runner p).pinned = true → (s.nextEntry p).isSome = true)
    ∧ (parking st = true → s.nextEntry p = none)
    ∧ (st = .running ∨ st = .held → (s.onAirEntry p).isSome = true)
    ∧ (st = .idle ∨ st = .parked → s.onAirEntry p = none)

/-! ### Takes and posts -/

/-- The list after a take of an entry whose neighbours have first been changed by `f`: the ON_AIR entry goes DONE with
its elapsed, the taken one goes ON_AIR and is the take mark, and next selection follows (R75, R81, R88). -/
def Part.takenList (s : Part) (p : ProgId) (n : Entry) (f : Entry → Entry) : Rundown :=
  let l := s.rundown p
  let put := fun (e : Entry) =>
    if e.tag = n.tag then
      { e with state := .onAir, takeFrame := some s.clock.frame, actual := none, airings := min 255 (e.airings + 1) }
    else if e.state = .onAir then { e with state := .done, actual := some ((s.elapsed p).getD 0) }
    else f e
  let l1 : Rundown := { entries := l.entries.map put, mark := some n.tag }
  { l1 with entries := l1.reselected }

/-- The program record after a take of an entry (R88). -/
def Part.takenRunner (s : Part) (p : ProgId) (n : Entry) : Runner :=
  let held := (s.record n.record).holdOnTake
  { s.runner p with
    state := if held then .held else .running, held := if held then some 0 else none, correction := 0
    runSeen := false, givenUp := false, pinned := false
    showStart := some ((s.runner p).showStart.getD s.clock.day) }

/-- Two rows are the same cue: all that a story gives a row (R127). -/
abbrev SameCue (a b : Row) : Prop :=
  a.anchor = b.anchor ∧ a.channel = b.channel ∧ a.action = b.action ∧ a.param = b.param ∧ a.offset = b.offset
    ∧ a.asset = b.asset

/-- The due elapsed of a row, from a planned duration (R128). -/
def dueOf (planned : Nat) (r : Row) : Option Nat :=
  match r.anchor with
  | .fromTake => some r.offset
  | .fromEnd => some (planned - r.offset)
  | .onNext | .manual => none

/-- The rows a take finds for an entry: those of the NEXT table, or those its story gives it when it was not NEXT. -/
def Part.comingRows (s : Part) (p : ProgId) (n : Entry) : List Row :=
  if s.nextEntry p = some n then (s.firing p).next.rows else (s.record n.record).rows

/-- The ON_AIR table a take leaves: the cues of the taken entry, due as a planned duration gives; a WAITING row that is
due at 0 has gone out, and one of the NEXT table that is not keeps what became of it (R128, R131). -/
abbrev TableTaken (p : ProgId) (n : Entry) (planned : Nat) (s t : Part) : Prop :=
  (t.firing p).onAir.tag = (if s.nextEntry p = some n then (s.firing p).next.tag else n.tag)
    ∧ (t.firing p).onAir.rows.length = (s.comingRows p n).length
    ∧ ∀ (i : Nat) r, (s.comingRows p n)[i]? = some r → ∃ x, (t.firing p).onAir.rows[i]? = some x
        ∧ SameCue x r ∧ x.due = dueOf planned r
        ∧ (r.outcome = .waiting → dueOf planned r = some 0 → x.outcome ≠ .waiting)
        ∧ (s.nextEntry p = some n → ¬ (r.outcome = .waiting ∧ dueOf planned r = some 0) →
            x.outcome = r.outcome ∧ x.posting = r.posting ∧ x.held = r.held)

/-- The claims a take leaves on a channel: a LIVE program holds, of the channels that were its own or FREE, those that
the entry on air or the NEXT entry uses, and releases the others it held; a program in REHEARSAL asks for nothing
(R88, R97, R134, R150, R153). -/
abbrev ClaimsTaken (p : ProgId) (n : Entry) (s t : Part) : Prop :=
  ∀ c, let ch := s.channel c
    let needed := ch.shareable = false
      ∧ ((s.record n.record).uses c = true ∨ ∃ e ∈ t.nextEntry p, (s.record e.record).uses c = true)
    ((s.runner p).mode = .rehearsal → (t.channel c).claim = ch.claim)
      ∧ ((s.runner p).mode = .live → ch.claim = .held p →
          (t.channel c).claim = if needed then .held p else .releasing p)
      ∧ ((s.runner p).mode = .live → ch.claim = .free → (t.channel c).claim = if needed then .held p else .free)

/-- A take of an entry has been made, with its planned duration: the list and the program record are as R75 and R88
give, the airing set is that of R150, kept in REHEARSAL too (assumption log 27), the table and the claims are as R131 and
R150 give, and nothing but the program's tables, the channels and the notices has changed beside. -/
abbrev TakeMade (p : ProgId) (n : Entry) (f : Entry → Entry) (planned : Nat) (s t : State) : Prop :=
  t.rundown p = s.takenList p n f ∧ t.runner p = s.takenRunner p n
    ∧ (∀ c, c ∈ t.airingSet p ↔ ((s.record n.record).uses c = true ∧ (s.channel c).shareable = false))
    ∧ TableTaken p n planned s.toPart t.toPart ∧ ClaimsTaken p n s.toPart t.toPart
    ∧ OthersKept p s.toPart t.toPart
    ∧ KeepsBut [.intake, .lines, .rundowns, .runners, .firings, .airing, .channels, .notices] s t

/-- The gate closes on a row's ROLL: a LIVE program's ROLL to a CLIP or UNCONFIGURED channel that is not ready
(R136, R137). -/
abbrev GateShut (s : Part) (p : ProgId) (r : Row) : Prop :=
  let ch := s.channel r.channel
  (s.runner p).mode = .live ∧ r.action = .roll ∧ ch.config.all (fun g => g.kind == .clip) = true
    ∧ ¬ (ch.health = .online ∧ ch.report.map Report.status = some .ready)

/-- The roll grace of a row's channel, 0 while it is UNCONFIGURED (R136). -/
abbrev graceOf (s : Part) (r : Row) : Nat := ((s.channel r.channel).config.map ChanConfig.rollGrace).getD 0

/-- A row's latest post is in flight; any other outcome is final until the row is posted again (R127). -/
abbrev Flying (r : Row) : Prop := r.held = none ∧ (r.outcome = .posted ∨ r.outcome = .issued)

/-- The rows of both tables of a program after an outcome has come back for a posting number: the rows of that number
whose post is in flight record it, every other row stays (R126, R127, R133). -/
abbrev RowsTold (p : ProgId) (n : Nat) (out : RowOutcome) (s t : Part) : Prop :=
  ∀ k, ((t.firing p).table k).rows = ((s.firing p).table k).rows.map
    (fun r => if r.posting = some n ∧ Flying r then { r with outcome := out } else r)

/-- The rows of both tables of a program after several of its commands have left a queue together: the rows whose post
in flight was one of them record the outcome, every other row stays (R126, R127, R152). -/
abbrev RowsLost (p : ProgId) (lost : List QCommand) (out : RowOutcome) (s t : Part) : Prop :=
  ∀ k, ((t.firing p).table k).rows = ((s.firing p).table k).rows.map (fun r =>
    if Flying r ∧ (∃ x ∈ lost, x.program = p ∧ x.posting ≠ none ∧ x.posting = r.posting) then { r with outcome := out }
    else r)

/-- One row of one of a program's tables has changed, and no other row of any table. -/
abbrev RowBecomes (p : ProgId) (k : TableKind) (i : Nat) (r : Row) (s t : Part) : Prop :=
  ((t.firing p).table k).rows = ((s.firing p).table k).rows.set i r
    ∧ ((t.firing p).table k).tag = ((s.firing p).table k).tag
    ∧ (t.firing p).table (if k = .onAir then .next else .onAir) = (s.firing p).table (if k = .onAir then .next else .onAir)
    ∧ (t.firing p).echoOn = (s.firing p).echoOn
    ∧ ∀ q, q ≠ p → t.firing q = s.firing q

/-- A row is given up: NOT_READY, with its notice, and nothing sent (R137). -/
abbrev RowGivenUp (p : ProgId) (k : TableKind) (i : Nat) (r : Row) (s t : State) : Prop :=
  RowBecomes p k i { r with outcome := .notReady, held := none } s.toPart t.toPart
    ∧ (t.firing p).posting = (s.firing p).posting ∧ t.channels = s.channels
    ∧ Raises .notReady (cueSubject p ((s.firing p).table k).tag r.channel) s.toPart t.toPart

/-- The command a row posts (R125, R126). -/
def Part.commandOf (s : Part) (p : ProgId) (k : TableKind) (r : Row) : QCommand :=
  let kind := (s.channel r.channel).config.map ChanConfig.kind
  { program := p, action := r.action, param := r.param
    asset := if r.asset = 0 ∧ kind = some .prompter then ((s.firing p).table k).prompter else r.asset
    posting := some (s.firing p).posting, tag := ((s.firing p).table k).tag, frame := s.clock.frame }

/-- A row is posted: it takes the program's posting number, and its outcome is the answer of the channel, or of the
rehearsal echo in REHEARSAL; a refusal raises its notice (R126, R139, R155). -/
abbrev RowPosted (p : ProgId) (k : TableKind) (i : Nat) (r : Row) (s t : State) : Prop :=
  let ch := s.channel r.channel
  let rehearsal := (s.runner p).mode = .rehearsal
  let allowed := ch.shareable = true ∨ ch.claim = .held p
  let room := if rehearsal then (s.firing p).echo.length < 64 else ch.queue.length < 8
  let out : RowOutcome := if ¬ rehearsal ∧ ¬ allowed then .noClaim else if room then .posted else .queueFull
  let sub := cueSubject p ((s.firing p).table k).tag r.channel
  let kept := t.notices = s.notices ∧ t.noticesLost = s.noticesLost
  RowBecomes p k i { r with outcome := out, posting := some (s.firing p).posting, held := none } s.toPart t.toPart
    ∧ (t.firing p).posting = ((s.firing p).posting + 1) % 65536
    ∧ (out = .posted → kept)
    ∧ (out = .noClaim → Raises .noClaim sub s.toPart t.toPart)
    ∧ (out = .queueFull → Raises .queueFull sub s.toPart t.toPart)
    ∧ (∀ c, t.channel c =
        if c = r.channel ∧ ¬ rehearsal ∧ out = .posted then
          { s.channel c with queue := (s.channel c).queue ++ [s.commandOf p k r] }
        else s.channel c)
    ∧ (t.firing p).echo =
        if rehearsal ∧ out = .posted then
          (s.firing p).echo ++ [{ channel := r.channel, action := r.action, posting := some (s.firing p).posting,
                                  issued := false }]
        else (s.firing p).echo

/-- A row goes out through the gate (R133, R137). -/
abbrev RowFired (p : ProgId) (k : TableKind) (i : Nat) (r : Row) (s t : State) : Prop :=
  (GateShut s.toPart p r → graceOf s.toPart r = 0 → RowGivenUp p k i r s t)
    ∧ (GateShut s.toPart p r → graceOf s.toPart r ≠ 0 →
        RowBecomes p k i { r with outcome := .posted, held := some 0, heldAt := s.clock.frame } s.toPart t.toPart
          ∧ (t.firing p).posting = (s.firing p).posting ∧ t.channels = s.channels ∧ t.notices = s.notices)
    ∧ (¬ GateShut s.toPart p r → RowPosted p k i r s t)

/-- How many of the first rows of a list pass a test. -/
def countBefore (l : List Row) (i : Nat) (test : Row → Bool) : Nat := ((l.take i).filter test).length

/-- What firing one row of several makes of it: the rows before it in the same firing take the posting numbers and the
places of the queue or the echo before its own (R126, R137, R139, R155). -/
def Part.firedRow (s : Part) (p : ProgId) (k : TableKind) (go : Row → Bool) (i : Nat) (r : Row) : Row :=
  let rows := ((s.firing p).table k).rows
  let out := fun (x : Row) => go x && !decide (GateShut s p x)
  let rehearsal := (s.runner p).mode = .rehearsal
  let ch := s.channel r.channel
  let number := ((s.firing p).posting + countBefore rows i out) % 65536
  let room := if rehearsal then (s.firing p).echo.length + countBefore rows i out < 64
    else ch.queue.length + countBefore rows i (fun x => out x && x.channel == r.channel) < 8
  if go r = false then r
  else if GateShut s p r then
    if graceOf s r = 0 then { r with outcome := .notReady, held := none }
    else { r with outcome := .posted, held := some 0, heldAt := s.clock.frame }
  else
    { r with outcome := if ¬ rehearsal ∧ ¬ (ch.shareable = true ∨ ch.claim = .held p) then .noClaim
                        else if room then .posted else .queueFull
             posting := some number, held := none }

/-- Some rows of one of a program's tables are fired, one after another in row order (R130, R131, R137): each row is as
`firedRow` gives, the commands of the POSTED ones stand at the tails of their channels' queues or of the echo, a row that
is refused or given up has its notice unless the queue is full, and nothing else has changed. -/
abbrev RowsFired (p : ProgId) (k : TableKind) (go : Row → Bool) (s t : Part) : Prop :=
  let rows := ((s.firing p).table k).rows
  let out := fun (x : Row) => go x && !decide (GateShut s p x)
  let rehearsal := (s.runner p).mode = .rehearsal
  let sub := fun (r : Row) => cueSubject p ((s.firing p).table k).tag r.channel
  let told := fun (kind : NoticeKind) (r : Row) =>
    (∃ m ∈ t.notices, m.kind = kind ∧ m.subject = sub r) ∨ 32 ≤ t.notices.length
  let sent := (List.range rows.length).flatMap (fun i => (rows[i]?.toList.filter (fun r =>
    out r && (s.firedRow p k go i r).outcome == .posted)).map (fun r => (r, s.firedRow p k go i r)))
  t = { s with firings := t.firings, channels := t.channels, notices := t.notices, noticesLost := t.noticesLost }
    ∧ (∀ q, q ≠ p → t.firing q = s.firing q)
    ∧ ((t.firing p).table k).rows.length = rows.length
    ∧ (∀ (i : Nat) r, rows[i]? = some r → ((t.firing p).table k).rows[i]? = some (s.firedRow p k go i r)
        ∧ (go r = true → (s.firedRow p k go i r).outcome = .noClaim → told .noClaim r)
        ∧ (go r = true → (s.firedRow p k go i r).outcome = .queueFull → told .queueFull r)
        ∧ (go r = true → (s.firedRow p k go i r).outcome = .notReady → told .notReady r))
    ∧ (t.firing p).posting = ((s.firing p).posting + (rows.filter out).length) % 65536
    ∧ (t.firing p).table (if k = .onAir then .next else .onAir) = (s.firing p).table (if k = .onAir then .next else .onAir)
    ∧ (∀ c, t.channel c = { s.channel c with
        queue := (s.channel c).queue ++ if rehearsal then [] else
          (sent.filter (fun x => x.1.channel == c)).map (fun x => { s.commandOf p k x.1 with posting := x.2.posting }) })
    ∧ (t.firing p).echo = (s.firing p).echo ++ if rehearsal then
        sent.map (fun x => { channel := x.1.channel, action := x.1.action, posting := x.2.posting, issued := false })
      else []

/-- The rows of a table rebuilt at a relink on air (R134): each new row, in row order, is matched with the lowest old row
that has been posted, is the same cue but for its parameter and is not yet matched, and takes over what became of it; an
unmatched one is SKIPPED when it is past due, and WAITING otherwise. `hits` names the matches. That a matched row takes
over the due elapsed too is the model's reading (assumption log 31). -/
abbrev RowsRebuilt (old new out : List Row) (elapsed : Nat) (hits : List (Option Nat)) : Prop :=
  let fits := fun (n : Row) (j : Nat) => ∃ o ∈ old[j]?, o.outcome ≠ .waiting ∧ o.outcome ≠ .skipped
    ∧ n.anchor = o.anchor ∧ n.channel = o.channel ∧ n.action = o.action ∧ n.asset = o.asset ∧ n.offset = o.offset
  hits.length = new.length ∧ out.length = new.length
    ∧ ∀ (i : Nat) n, new[i]? = some n → ∀ h, hits[i]? = some h →
        (∀ j, h = some j → fits n j ∧ some j ∉ hits.take i ∧ (∀ m, m < j → fits n m → some m ∈ hits.take i)
            ∧ ∀ o, old[j]? = some o → out[i]? = some { n with
                outcome := o.outcome, posting := o.posting, held := o.held, heldAt := o.heldAt, due := o.due })
          ∧ (h = none → (∀ m, m < old.length → fits n m → some m ∈ hits.take i)
            ∧ out[i]? = some { n with
                outcome := if n.anchor = .fromTake ∧ n.offset ≤ elapsed then .skipped else .waiting
                due := if n.anchor = .fromTake then some n.offset else none })

/-! ### Claims that pass -/

/-- A waiting request beats another: a higher priority, or the same and a greater age (R154). -/
def Part.beats (s : Part) (w v : ProgId × Nat) : Bool :=
  decide (s.priority v.1 < s.priority w.1)
    || (decide (s.priority v.1 = s.priority w.1) && decide (since s.clock.frame v.2 < since s.clock.frame w.2))

/-- What the grant arbiter makes of a claim, from the requests in order: FREE with none, else HELD for the request that
beats every earlier one and that no later one beats (R154). -/
abbrev Granted (s : Part) (l : List (ProgId × Nat)) (claim : Claim) : Prop :=
  (l = [] → claim = .free)
    ∧ ∀ (i : Nat) w, l[i]? = some w → (∀ v ∈ l.take i, s.beats w v = true) →
        (∀ v ∈ l.drop (i + 1), s.beats v w = false) → claim = .held w.1

/-- A claim that had been a program's has passed by the arbiter, who looks first at the waiting programs that need the
channel, in their order, and last at the return request (R154). -/
abbrev ClaimPassed (p : ProgId) (c : ChanId) (s t : Part) : Prop :=
  let ch := s.channel c
  let left := ch.waiting.filter (fun w => s.needs w.1 c)
  let back := if s.needs p c then (ch.returnReq.map (fun f => (p, f))).toList else []
  (t.channel c).onStates.at p = false ∧ (t.channel c).returnReq = none ∧ (t.channel c).release = none
    ∧ Granted s (left ++ back) (t.channel c).claim
    ∧ (t.channel c).waiting = left.filter (fun w => (t.channel c).claim.program != some w.1)

/-- What the end of an airing without a take leaves of a program's tables, of its echo and of the channels, from the
state `u` with its ON_AIR table settled and the channels the airing used: a LIVE program asks for the release of each
channel it holds, one in REHEARSAL has a CLEAR at the echo for each channel used that its entries as they now stand use
no longer (R92, R98, R132, R140, R153). -/
abbrev AiringLeft (p : ProgId) (used : List ChanId) (u t : Part) : Prop :=
  let live := (u.runner p).mode = .live
  let clear : QCommand :=
    { program := p, action := .clear, param := 0, asset := 0, posting := none, tag := 0, frame := u.clock.frame }
  let spare (c : ChanId) : Prop := c ∈ used ∧ (u.channel c).shareable = false ∧ c ∉ t.airingSet p
    ∧ ∀ e ∈ t.nextEntry p, (u.record e.record).uses c = false
  let echoed := (allChannels.filter (fun c => decide (spare c))).map (fun c =>
    ({ channel := c, action := .clear, posting := none, issued := false } : EchoCmd))
  (∀ q, q ≠ p → t.firing q = u.firing q)
    ∧ t.firing p = { u.firing p with
        echo := (u.firing p).echo ++ if live then [] else echoed.take (64 - (u.firing p).echo.length) }
    ∧ ∀ c, t.channel c =
        if live ∧ (u.channel c).claim = .held p then { u.channel c with claim := .releasing p, release := some clear }
        else u.channel c

/-- The park conditions of R100. -/
abbrev MayPark (s : Part) (p : ProgId) : Prop :=
  s.onAirEntry p = none
    ∧ (∀ c, (s.channel c).claim.program ≠ some p)
    ∧ (∀ c, (∀ k ∈ (s.channel c).queue, k.program ≠ p)
        ∧ ¬ ((s.channel c).current.program = some p ∧ (s.channel c).current.standing = .awaiting))
    ∧ ∀ l, ¬ ((s.line l).fn.actionProgram = some p ∧ (s.line l).armed = true ∧ (s.line l).accepted = true)

/-- The automatic-end test of R91 for the ON_AIR entry. -/
def EndDue (s : Part) (p : ProgId) (e : Entry) : Bool :=
  let st := (s.runner p).state
  let overrun := decide (s.planned e.record ≤ (s.elapsed p).getD 0)
  (st == .running || (st == .parkPending && (s.runner p).held.isNone))
    && (match (s.record e.record).endRule with
       | .manual => false
       | .autoTimed => overrun
       | .autoChannel =>
         if (s.runner p).runSeen then (s.observed p e.record).map Report.status == some .idle else overrun)

/-- An entry's hard start is reached at the last frame start (R35, R93). -/
def HardReached (s : Part) (e : Entry) : Bool := (s.record e.record).hardStart?.any (fun x => s.clock.reached x)

/-- The entry a hard-start take is made of: in a RUNNING program, the last in list order of the PENDING and NEXT entries
whose hard starts are reached (R93, R94). -/
def HardTarget (s : Part) (p : ProgId) : Option Entry :=
  if (s.runner p).state = .running then
    ((s.rundown p).entries.filter (fun x => x.waits && HardReached s x)).getLast?
  else none

/-- How many entries refer to a record (R56). -/
def Part.referrers (s : Part) (r : RecId) : Nat :=
  (allPrograms.map (fun p => ((s.rundown p).entries.filter (fun e => e.record == r)).length)).sum

/-- A record's link count equals the number of entries that refer to it, and a linked record is READY (R56). -/
abbrev LinksOk (s : Part) : Prop :=
  ∀ r, (s.record r).links = s.referrers r ∧ (0 < (s.record r).links → (s.record r).state = .ready)

/-! ### Bounds and order -/

/-- The bounds of the queues and pools (R17, R20, R61, R139, R156, R181). -/
abbrev Bounded (s : Part) : Prop :=
  s.intake.queue.length ≤ 32
    ∧ s.intake.replies.length ≤ 16
    ∧ (∀ p, (s.rundown p).entries.length ≤ 128)
    ∧ (allPrograms.map (fun p => (s.rundown p).entries.length)).sum ≤ 256
    ∧ (∀ p, (s.firing p).echo.length ≤ 64)
    ∧ (∀ c, (s.channel c).queue.length ≤ 8)
    ∧ s.notices.length ≤ 32

/-- The notices stand in the order of their priorities, the most urgent first (R182). -/
abbrev NoticesOrdered (s : Part) : Prop := s.notices.Pairwise (fun m n => m.kind.priority ≤ n.kind.priority)

/-- The day frame is one of the day, and the frame count one of 32 bits (R25). -/
abbrev ClockOk (s : Part) : Prop := s.clock.day < rateDay s.clock.rate ∧ s.clock.frame < 4294967296

/-- Every record's content is canonical memory. -/
abbrev StoreOk (s : Part) : Prop := ∀ r, Memory.wf (s.record r).content

/-- A waiting list names each program once, and none that has the claim; a FREE claim has none waiting, so that at
most three wait (R151, R154). -/
abbrev ClaimsOk (s : Part) : Prop :=
  ∀ c, let ch := s.channel c
    (ch.waiting.map Prod.fst).Nodup ∧ (∀ w ∈ ch.waiting, ch.claim.program ≠ some w.1)
      ∧ (ch.claim = .free → ch.waiting = []) ∧ ch.waiting.length ≤ 3

/-- A release place holds a CLEAR alone, and a current command that is a release CLEAR is a CLEAR (R153, R158). -/
abbrev ReleasesOk (s : Part) : Prop :=
  ∀ c, (∀ k ∈ (s.channel c).release, k.action = .clear)
    ∧ ((s.channel c).current.isRelease = true → (s.channel c).current.action = .clear)

/-- The slots that a set of status and reply slots names. -/
def SlotSet.named (m : SlotSet) : List Nat := (if m.status = 0 then [] else [m.status]) ++ m.replies

/-- The owned slots lie in 1 to 47 and are pairwise distinct, those in effect and those accepted alike: at most four
reply slots, each named slot one of no channel, and no slot one of two channels (R12, R13, R145). -/
abbrev SlotsOk (s : Part) : Prop :=
  (∀ m, (s.port.slots = m ∨ s.port.pendingSlots = some m) → m.replies.length ≤ 4 ∧ m.named.Nodup
      ∧ ∀ n ∈ m.named, 1 ≤ n ∧ n ≤ 47 ∧ ∀ c, n ∉ (s.channel c).claimedSlots)
    ∧ (∀ c, ∀ n ∈ (s.channel c).claimedSlots, n ≤ 47)
    ∧ ∀ c d, c ≠ d → ∀ n ∈ (s.channel c).claimedSlots, n ≠ 0 → n ∉ (s.channel d).claimedSlots

/-- A program's NEXT table is that of its NEXT entry, with the cues of its story, and empty when there is none (R97,
R127, R130, R131). -/
abbrev NextTableOk (s : Part) (p : ProgId) : Prop :=
  let tb := (s.firing p).next
  (s.nextEntry p = none → tb = { tag := 0, prompter := 0, rows := [] })
    ∧ ∀ e, s.nextEntry p = some e → tb.tag = e.tag ∧ tb.prompter = (s.record e.record).prompterId
        ∧ tb.rows.length = (s.record e.record).rows.length
        ∧ ∀ (i : Nat) a, tb.rows[i]? = some a → ∀ b, (s.record e.record).rows[i]? = some b → SameCue a b

/-- An on-state is set only on a channel its program may use: a shareable one, or one claimed for it (R162). -/
abbrev OnStatesOk (s : Part) : Prop :=
  ∀ c p, (s.channel c).onStates.at p = true →
    (s.channel c).shareable = true ∨ (s.channel c).claim.program = some p

/-- Every line of an active part shows its function (R167, R169, R173). -/
abbrev LinesShown (s : Part) : Prop :=
  s.active = true → ∀ l, s.line l = (s.line l).withLevels s.trunkLoss (s.requestedLevel (s.line l))

end Sys2Proof.Machine
end

