-- ==== Sys2Proof/Certificates/Slice0/Obligations.lean ====
section
/-! DEFINITION. The statements for the provers. Each docstring names the rules of spec/ it rests on. -/

section

open Sys2Proof Sys2Proof.Machine

/-! ### The machine -/

/-- One step carries out the command at the front of the queue, with the rest of the queue kept; and every command
answers a next state from every state and leaves the queue of waiting commands as it is: the part has no fault, and
refuses a command with a response (R18, R19). That the part idles on an empty queue is the model's choice (assumption
log 24). -/
def Obligations.StepRunsFrontCommand : Prop :=
  (∀ (c : Instr) (rest : List Instr) (s : State), s.pending = c :: rest → step s = exec c { s with pending := rest })
    ∧ (∀ s : State, s.pending = [] → step s = .next s)
    ∧ ∀ (i : Instr) (s : State), ∃ t, exec i s = .next t ∧ t.pending = s.pending

/-! ### Resets -/

/-- R22: the state of the trunk blocks after release of the reset pin, row by row. -/
def Obligations.ResetPinReleaseSetsTrunkState : Prop :=
  ∀ (straps : Fin 64) (s : State), ∃ t, exec (.resetPinRelease straps) s = .next t
    ∧ t.port.lock = .seeking 0 ∧ t.port.runDay = 0 ∧ t.port.position = none ∧ t.port.sequence = 0
    ∧ t.port.slots = { status := 0, replies := [] } ∧ (∀ c, (t.channel c).slot = 0)
    ∧ t.port.pendingSlots = none ∧ (∀ c, (t.channel c).pending = none ∧ (t.channel c).keptNext = none)
    ∧ t.port.emptyUsed = 0 ∧ t.port.node = straps.val
    ∧ (∀ i, t.intake.contexts.at i = none) ∧ t.intake.queue = [] ∧ t.intake.pause = false
    ∧ t.intake.replies = [] ∧ t.intake.carrying = none

/-- Release of the reset pin leaves every other block at its reset values: the clock (R39), the store (R60), the lists
(R82), the program records (R106), the presenters (R108), the timing results (R123), the tables and echoes (R143), the
channels (R163), the lines and flash phases (R179), and the notices (R183). -/
def Obligations.ResetPinReleaseClearsOtherBlocks : Prop :=
  ∀ (straps : Fin 64) (s : State), ∃ t, exec (.resetPinRelease straps) s = .next t ∧ t.pending = s.pending
    ∧ t.clock.rate = .r25 ∧ t.clock.pendingRate = none ∧ t.clock.day = 0 ∧ t.clock.prevDay = 0 ∧ t.clock.frame = 0
    ∧ (∀ r, (t.record r).state = .free ∧ (t.record r).links = 0 ∧ (t.record r).retire = false
        ∧ ∀ a, a < 768 → (t.record r).byteAt a = 0)
    ∧ (∀ p, (t.rundown p).entries = [] ∧ (t.rundown p).mark = none)
    ∧ (∀ p, (t.runner p).state = .idle ∧ (t.runner p).mode = .live
        ∧ (t.runner p).settings = { priority := 0, hardOut := none, w1 := 30, w2 := 10, breakIn := none }
        ∧ (t.runner p).pending = none ∧ (t.runner p).pinned = false ∧ (t.runner p).held = none
        ∧ (t.runner p).correction = 0 ∧ (t.runner p).runSeen = false ∧ (t.runner p).givenUp = false
        ∧ (t.runner p).showStart = none)
    ∧ (∀ p, TimingEmpty (t.timing p) 750 250)
    ∧ (∀ p, (t.firing p).next.rows = [] ∧ (t.firing p).onAir.rows = [] ∧ (t.firing p).echo = []
        ∧ (∀ c, (t.firing p).echoOn.at c = false) ∧ (t.firing p).posting = 0)
    ∧ (∀ p, t.airingSet p = [])
    ∧ (∀ k, PresenterEmpty (t.presenter k))
    ∧ (∀ c, ChannelEmpty (t.channel c) ∧ (t.channel c).slot = 0)
    ∧ (∀ l, LineEmpty (t.line l) false)
    ∧ t.trunkLoss = .normal ∧ t.notices = [] ∧ t.noticesLost = false

/-- While the reset pin is asserted, and while the straps make the part a pure repeater, it forwards every cell
unchanged and does nothing else; asserting the pin undrives every line (R14, R179). That the assertion leaves every other
block as it holds until the release, and that a message or an event of an inactive part does nothing, is the model's
choice (assumption log 40). -/
def Obligations.ResetPinAndRepeaterOnlyForward : Prop :=
  (∀ s : State, ∃ t, exec .resetPinAssert s = .next t ∧ t.active = false
      ∧ t.port = { s.port with resetAsserted := true }
      ∧ (∀ l, t.line l = { s.line l with driven := none }) ∧ KeepsBut [.port, .lines] s t)
    ∧ (∀ (c : Cell) (s : State), s.active = false →
        ∃ t, exec (.cellArrival c) s = .next t ∧ t.port = { s.port with trunkOut := some c } ∧ KeepsBut [.port] s t)
    ∧ (∀ (c : Cell) (sensed : Word) (s : State), s.active = false →
        ∃ t, exec (.markerArrival c sensed) s = .next t ∧ t.port = { s.port with trunkOut := some c }
          ∧ KeepsBut [.port] s t)
    ∧ ∀ (i : Instr) (s : State), s.active = false → isPinOrCell i = false → exec i s = .next s

/-- RESET_NODE puts every block in its reset state but for what R21, R39 and R163 keep, and its DONE response is the
only one in the reply queue; a line keeps its sensed level (R179). That the frame sequence and the count of EMPTY slots
used go to 0 is read from R21's list of what is kept (assumption log 20), and that E is then 0 the model's reading of R123
(assumption log 23). -/
def Obligations.ResetNodeKeepsLockSlotsAndRate : Prop :=
  ∀ (o : Origin) (s : State), Listening s.toPart → ∃ t, exec (.resetNode o) s = .next t ∧ t.pending = s.pending
    ∧ t.port = { s.port with emptyUsed := 0, sequence := 0 }
    ∧ t.clock = { s.clock with frame := 0 }
    ∧ t.intake.replies = [{ dest := o.source, tag := o.tag, payload := (Reply.done []).payload 1, sent := 0 }]
    ∧ t.intake.queue = [] ∧ t.intake.pause = false ∧ (∀ i, t.intake.contexts.at i = none)
    ∧ (∀ r, t.record r = Record.free) ∧ (∀ p, t.rundown p = Rundown.empty ∧ t.runner p = Runner.reset
        ∧ t.firing p = Firing.reset ∧ t.airingSet p = [])
    ∧ (∀ p, TimingEmpty (t.timing p) (secondsToFrames s.clock.rate 30) (secondsToFrames s.clock.rate 10))
    ∧ (∀ k, PresenterEmpty (t.presenter k))
    ∧ (∀ c, ChannelEmpty (t.channel c) ∧ (t.channel c).slot = (s.channel c).slot
        ∧ (t.channel c).keptNext = (match (s.channel c).pending with
            | some n => some n.slot
            | none => (s.channel c).keptNext))
    ∧ (∀ l, LineEmpty (t.line l) (s.line l).sensed) ∧ t.trunkLoss = .normal ∧ t.notices = []
    ∧ t.noticesLost = false

/-! ### Frame starts and markers -/

/-- A fall of the internal tick begins a frame that is not LOCKED: the clock advances (R25), the lock follows R6 and R7
and is lost at the twelfth miss, and the port's frame counts, its status tag and slots are those of R9 and R185. No
record, no waiting message and no response is touched. That every tick given in LOCKED comes before the expected marker,
and so begins a missed frame, is the model's choice: the re-phased tick is the sender's to leave out (assumption log 9). -/
def Obligations.TickStartsUnlockedFrame : Prop :=
  ∀ (sensed : Word) (s : State), s.active = true → s.clock.pendingRate = none →
    ∃ t, exec (.internalTick sensed) s = .next t ∧ t.pending = s.pending
      ∧ t.clock = { s.clock with prevDay := s.clock.day, day := (s.clock.day + 1) % rateDay s.clock.rate,
                                 frame := (s.clock.frame + 1) % 4294967296, rateStart := false }
      ∧ t.port = { s.port with
          lock := (match s.port.lock with
            | .seeking n => .seeking n
            | .locked => .flywheel 1
            | .flywheel n => if 12 ≤ n + 1 then .lost else .flywheel (n + 1)
            | .lost => .lost)
          lockedFrame := false, frameWasLocked := false, endedLocked := s.port.frameWasLocked, beganLocked := false,
          frameTag := (s.clock.frame + 1) % 4294967296 % 256, emptyUsed := 0,
          slots := s.port.pendingSlots.getD s.port.slots, pendingSlots := none }
      ∧ t.intake.queue = s.intake.queue ∧ t.intake.replies = s.intake.replies
      ∧ t.trunkLoss = (match t.port.lock with | .lost => .holding | _ => .normal)
      ∧ ∀ r, (t.record r).content = (s.record r).content ∧ (t.record r).state = (s.record r).state

/-- What was accepted for the next frame start is in effect after it, and nothing of it still waits, whether the internal
tick or a marker gives the frame start: program settings (R87), presenter settings (R107), line configurations (R166),
channel configurations (R146), slots (R9) and a rate, with which the presenters' patterns begin again (R27, R171). Which
ticks and markers follow one another is the sender's (assumption log 9), and that a full change is tested on the channel
as it stands before any other work of the frame start, so on the idleness of the state before it, is the model's reading of
R157's first step (assumption log 6). -/
def Obligations.FrameStartPutsAcceptedSettingsIntoEffect : Prop :=
  ∀ (i : Instr) (s : State), s.active = true → GivesFrameStart i s.toPart → ∃ t, exec i s = .next t
    ∧ (∀ p, (t.runner p).settings = ((s.runner p).pending.getD (s.runner p).settings) ∧ (t.runner p).pending = none)
    ∧ (∀ k, (t.presenter k).settings = ((s.presenter k).pending.getD (s.presenter k).settings)
        ∧ (t.presenter k).pending = none)
    ∧ (∀ l, (t.line l).config = ((s.line l).pending.getD (s.line l).config) ∧ (t.line l).pending = none)
    ∧ (∀ c, (t.channel c).pending = none ∧ (t.channel c).keptNext = none)
    ∧ (∀ c, let ch := s.channel c
        (t.channel c).config = (match ch.pending, ch.config with
          | none, g => g
          | some n, none => some n
          | some n, some g =>
            if fullChange g n then (if ch.idle then some n else some g)
            else some { g with ackWindow := n.ackWindow, rollGrace := n.rollGrace, staleLimit := n.staleLimit }))
    ∧ t.port.slots = s.port.pendingSlots.getD s.port.slots ∧ t.port.pendingSlots = none
    ∧ t.clock.rate = s.clock.pendingRate.getD s.clock.rate ∧ t.clock.pendingRate = none
    ∧ t.clock.frame = (s.clock.frame + 1) % 4294967296
    ∧ t.port.position = (match i with | .internalTick _ => s.port.position | _ => some 1)
    ∧ (s.clock.pendingRate.isSome = true →
        t.clock.day = 0 ∧ t.clock.tickRate = t.clock.rate ∧ t.port.lock = .seeking 0 ∧ t.port.lockedFrame = false
          ∧ ∀ k, (t.presenter k).count = 0)

/-- The marker that begins a LOCKED frame is a frame start: the expected one in LOCKED (R6), the one after the frame in
progress in FLYWHEEL (R7), and the third of a run in SEEKING (R5). The day frame is then the marker's; when it differs from the one
advancing would have given, the clock's advance raises MARKER_JUMP (R5). -/
def Obligations.MarkerBeginsLockedFrame : Prop :=
  (∀ (c : Cell) (sensed : Word) (s : State), s.active = true → s.clock.pendingRate = none → isMarker c = true →
    (s.port.position = none ∨ s.port.position = some 0) → markerValid s.clock.rate c = true →
    ((s.port.lock = .locked ∧ markerDay s.clock.rate c = (s.clock.day + 1) % rateDay s.clock.rate)
      ∨ ((∃ n, s.port.lock = .flywheel n) ∧ markerDay s.clock.rate c = (s.clock.day + 1) % rateDay s.clock.rate)
      ∨ (s.port.lock = .seeking 2 ∧ markerDay s.clock.rate c = (s.port.runDay + 1) % rateDay s.clock.rate)) →
    ∃ t, exec (.markerArrival c sensed) s = .next t ∧ t.pending = s.pending
      ∧ t.clock = { s.clock with prevDay := s.clock.day, day := markerDay s.clock.rate c,
                                 frame := (s.clock.frame + 1) % 4294967296, rateStart := false }
      ∧ t.port = { s.port with
          lock := .locked, position := some 1, trunkOut := some c, sequence := markerSequence c,
          runDay := (if s.port.lock = .seeking 2 then markerDay s.clock.rate c else s.port.runDay)
          lockedFrame := true, frameWasLocked := true, endedLocked := s.port.frameWasLocked, beganLocked := true,
          frameTag := (s.clock.frame + 1) % 4294967296 % 256, emptyUsed := 0,
          slots := s.port.pendingSlots.getD s.port.slots, pendingSlots := none }
      ∧ t.trunkLoss = .normal)
    ∧ ∀ (day : Nat) (s : Machine.Part),
        let t := s.clockAdvance (some day)
        let jump := day ≠ (s.clock.day + 1) % rateDay s.clock.rate
        t.clock.day = day
          ∧ (jump → (t.notices, t.noticesLost) =
              noticeRaise .markerJump {} ((s.clock.frame + 1) % 4294967296) s.notices s.noticesLost)
          ∧ (¬ jump → t.notices = s.notices ∧ t.noticesLost = s.noticesLost)

/-- Every other marker is forwarded and gives no frame start. A recognized one can change only the port's lock, run,
position and sequence, as R4 to R8 give; it raises RATE_MISMATCH for another rate code under a good check, and
MARKER_ADJUSTED when it is valid under a label that does not exist (R3, R31). An early marker, and one with a bad check
while the position is UNKNOWN, is not recognized and raises nothing (R3, R4). -/
def Obligations.OtherMarkersGiveNoFrameStart : Prop :=
  ∀ (c : Cell) (sensed : Word) (s : State), s.active = true → isMarker c = true →
    let recognized := s.port.position = some 0 ∨ (s.port.position = none ∧ cellGood c = true)
    let valid := markerValid s.clock.rate c
    let day := markerDay s.clock.rate c
    let next := (s.clock.day + 1) % rateDay s.clock.rate
    let mismatch := cellGood c = true ∧ markerRate c ≠ s.clock.rate.code
    let adjusted := valid = true ∧ labelSkipped s.clock.rate (markerLabel c) = true
    let base : Port := { s.port with position := some 1, trunkOut := some c,
                                     sequence := if valid then markerSequence c else s.port.sequence }
    let first : Port := { base with lock := .seeking 1, runDay := day, lockedFrame := false }
    let missed := (match s.port.lock with
      | .seeking _ => Lock.seeking 0
      | .locked => .flywheel 1
      | .flywheel n => .flywheel n
      | .lost => .lost)
    let after (q : Port) : Prop :=
      ∃ t, exec (.markerArrival c sensed) s = .next t ∧ t.port = q ∧ EventKeeps [.port, .notices] s t
        ∧ (mismatch → Raises .rateMismatch {} s.toPart t.toPart)
        ∧ (adjusted → Raises .markerAdjusted {} s.toPart t.toPart)
        ∧ (¬ mismatch → ¬ adjusted → t.notices = s.notices ∧ t.noticesLost = s.noticesLost)
    let passes (q : Port) : Prop := ∃ t, exec (.markerArrival c sensed) s = .next t ∧ t.port = q ∧ EventKeeps [.port] s t
    (recognized → valid = false → s.port.lock = .locked → after { base with lock := .flywheel 1 })
      ∧ (recognized → valid = false → (∃ n, s.port.lock = .seeking n) → after { base with lock := .seeking 0 })
      ∧ (recognized → valid = false → ((∃ n, s.port.lock = .flywheel n) ∨ s.port.lock = .lost) → after base)
      ∧ (recognized → valid = true → s.port.lock = .locked → day ≠ next → after first)
      ∧ (recognized → valid = true → s.port.lock = .lost → after first)
      ∧ (recognized → valid = true → s.port.lock = .seeking 0 → after first)
      ∧ (recognized → valid = true → (∃ n, s.port.lock = .seeking n) →
          day ≠ (s.port.runDay + 1) % rateDay s.clock.rate → after first)
      ∧ (recognized → valid = true → s.port.lock = .seeking 1 → day = (s.port.runDay + 1) % rateDay s.clock.rate →
          after { base with lock := .seeking 2, runDay := day })
      ∧ (recognized → valid = true → (∃ n, s.port.lock = .flywheel n) → day ≠ next → day ≠ s.clock.day → after first)
      ∧ (recognized → valid = true → (∃ n, s.port.lock = .flywheel n) → day ≠ next → day = s.clock.day →
          after { base with lock := .locked, lockedFrame := true, frameWasLocked := true })
      ∧ (s.port.position = none → cellGood c = false → passes { s.port with trunkOut := some c })
      ∧ (∀ n, s.port.position = some (n + 1) →
          passes { s.port with trunkOut := some c, position := none, lock := missed, lockedFrame := false })

/-- Outside LOCKED frames a cell is forwarded unchanged and only the port's position, and at a missing or early marker
its lock, can change (R1, R4, R6, R11). The row CELL_ARRIVAL carries a MARKER cell only in its last clauses' ill-formed
use (assumption log 28); a MARKER cell that arrives as such is O9's. -/
def Obligations.CellsOutsideLockedFramesPass : Prop :=
  ∀ (c : Cell) (s : State), s.active = true → s.intake.queue = [] →
    let missed := (match s.port.lock with
      | .seeking _ => Lock.seeking 0
      | .locked => .flywheel 1
      | .flywheel n => .flywheel n
      | .lost => .lost)
    let after (q : Port) : Prop := ∃ t, exec (.cellArrival c) s = .next t ∧ t.port = q ∧ EventKeeps [.port] s t
    (∀ n, s.port.position = some (n + 1) → isMarker c = false → s.port.lockedFrame = false →
        after { s.port with trunkOut := some c, position := some ((n + 2) % 48) })
      ∧ (s.port.position = none → (isMarker c = false ∨ cellGood c = false) → after { s.port with trunkOut := some c })
      ∧ (s.port.position = some 0 → isMarker c = false →
          after { s.port with trunkOut := some c, position := some 1, lock := missed })
      ∧ (∀ n, s.port.position = some (n + 1) → isMarker c = true →
          after { s.port with trunkOut := some c, position := none, lock := missed, lockedFrame := false })

/-! ### Cells of a LOCKED frame -/

/-- The status slot of a LOCKED frame carries the status cell (R185, R191): its header, with the tag taken at the last
frame start (O6 and O8 say what that tag is), and its 24 bytes as they stand when the cell is written. -/
def Obligations.StatusSlotCarriesStatusCell : Prop :=
  ∀ (c : Cell) (n : Nat) (s : State), s.active = true → s.intake.queue = [] → s.port.lockedFrame = true →
    s.port.position = some (n + 1) → n + 1 = s.port.slots.status → isMarker c = false → s.addressed c = false →
    ∃ t, exec (.cellArrival c) s = .next t ∧ EventKeeps [.port] s t
      ∧ t.port.position = some ((n + 2) % 48)
      ∧ ∃ out, t.port.trunkOut = some out ∧ cellGood out = true ∧ out.kind = 6 ∧ out.dest = 63
        ∧ out.source = BitVec.ofNat 8 s.port.node ∧ out.tag = BitVec.ofNat 8 s.port.frameTag ∧ out.fragment = 128
        ∧ out.length = 24
        ∧ cellData out = be1 s.port.lock.code
            ++ be1 ((if s.intake.pause then 1 else 0) + (if s.noticesLost then 2 else 0)
                + (if ∃ p, (s.timing p).saturated = true then 4 else 0))
            ++ allPrograms.flatMap (fun p =>
                be1 ((s.runner p).state.code + (if (s.runner p).mode = .rehearsal then 128 else 0))
                  ++ be2 (match s.onAirEntry p with | some e => e.tag | none => 0)
                  ++ beInt2 (match (s.timing p).oShow with | some f => toSeconds s.clock.rate f | none => 0))
            ++ be1 s.notices.length
            ++ be1 (match s.notices with | m :: _ => m.kind.priority | [] => 0)

/-- A reply slot of a LOCKED frame in its turn, or with no reply slots an EMPTY cell of the first two, carries the next
cell of the oldest response, which leaves the queue with its last cell (R19, R20, R192); a reply slot goes out EMPTY
when no response waits (R12) and before its turn. An EMPTY cell makes way so whatever its destination (R20). The model's
readings: the row RESPONSE_CELL_SEND is that arrival, and nothing where no response cell would go out (assumption log
15); a slot's turn is come when the slots before it in the list have passed in this frame (R13, assumption log 29);
EMPTY slots are counted as they are used (assumption log 42). -/
def Obligations.ReplySlotCarriesNextResponse : Prop :=
  ∀ (c : Cell) (n : Nat) (s : State), s.active = true → s.intake.queue = [] →
    s.port.lockedFrame = true → s.port.position = some (n + 1) → isMarker c = false →
    (s.addressed c = false ∨ (c.kind = 0 ∧ cellGood c = true ∧ c.length.toNat ≤ 24)) →
    let reply := n + 1 ∈ s.port.slots.replies ∧ n + 1 ≠ s.port.slots.status
    let turn := ∀ m ∈ s.port.slots.replies.takeWhile (fun m => m != n + 1), m < n + 1
    let lent := s.ownerOf (n + 1) = none ∧ s.port.slots.replies = [] ∧ c.kind = 0 ∧ cellGood c = true
      ∧ s.port.emptyUsed < 2
    let passed : Port := { s.port with position := some ((n + 2) % 48), lockedFrame := n + 1 != 47 }
    (∀ (r : Response) (rest : List Response), s.intake.replies = r :: rest → r.sent < fragmentCount r.payload →
        fragmentCount r.payload ≤ 8 → ((reply ∧ turn) ∨ lent) →
        ∃ t, exec (.cellArrival c) s = .next t ∧ exec (.responseCellSend c) s = .next t
          ∧ EventKeeps [.port, .intake] s t
          ∧ t.port = { passed with trunkOut := t.port.trunkOut
                                   emptyUsed := s.port.emptyUsed + if n + 1 ∈ s.port.slots.replies then 0 else 1 }
          ∧ t.intake = { s.intake with
              replies := if r.sent + 1 = fragmentCount r.payload then rest else { r with sent := r.sent + 1 } :: rest }
          ∧ ∃ out, t.port.trunkOut = some out ∧ cellGood out = true ∧ out.kind = 3 ∧ out.dest = r.dest ∧ out.tag = r.tag
            ∧ out.source = BitVec.ofNat 8 s.port.node ∧ fragIndex out = r.sent
            ∧ fragLast out = decide (r.sent + 1 = fragmentCount r.payload)
            ∧ cellData out = (r.payload.drop (24 * r.sent)).take 24)
      ∧ (reply → (s.intake.replies = [] ∨ ¬ turn) →
          ∃ t, exec (.cellArrival c) s = .next t ∧ EventKeeps [.port] s t
            ∧ t.port = { passed with trunkOut := some emptyCell }
            ∧ ∃ u, exec (.responseCellSend c) s = .next u ∧ EventKeeps [] s u)

/-- A channel slot of a LOCKED frame carries the channel's trigger cell (R161, R190), or an EMPTY cell while it is
UNCONFIGURED (R163); the first carrying of an on-action sets the on-state of a program that may use the channel, and an
off-action clears it (R162). That a RELEASING claim still counts as the program's (assumption log 18), and that a command
voided by PROGRAM_RESET sets none (assumption log 41), are the model's readings. -/
def Obligations.ChannelSlotCarriesTriggerCell : Prop :=
  ∀ (a : Cell) (n : Nat) (c : ChanId) (s : State), s.active = true → s.intake.queue = [] → s.port.lockedFrame = true →
    s.port.position = some (n + 1) → isMarker a = false → s.addressed a = false →
    s.ownerOf (n + 1) = some (.channel c) →
    let ch := s.channel c
    let k := ch.current
    ∃ t, exec (.cellArrival a) s = .next t ∧ EventKeeps [.port, .channels] s t
      ∧ (∀ d, d ≠ c → t.channel d = s.channel d)
      ∧ (ch.config = none → t.port.trunkOut = some emptyCell ∧ t.channel c = ch)
      ∧ ∀ g, ch.config = some g →
          (∃ out, t.port.trunkOut = some out ∧ cellGood out = true ∧ out.kind = 4 ∧ out.dest = BitVec.ofNat 8 g.node
            ∧ out.source = BitVec.ofNat 8 s.port.node ∧ out.tag = BitVec.ofNat 8 k.serial ∧ out.fragment = 128
            ∧ cellData out = be1 (c.val + 1) ++ be1 k.serial ++ be1 k.action.code
                ++ be1 (match k.program with | some p => p.val | none => 255) ++ be2 k.param ++ be4 k.asset)
          ∧ t.channel c = { ch with
              current := (t.channel c).current, onStates := (t.channel c).onStates }
          ∧ (t.channel c).current = { k with carried := true, setOn := (t.channel c).current.setOn }
          ∧ ∀ p, (t.channel c).onStates.at p =
              (if k.carried = true ∨ k.program ≠ some p then ch.onStates.at p
               else if k.action.isOn = true ∧ k.voided = false ∧ (ch.shareable = true ∨ ch.claim.program = some p)
                 then true
               else if k.action.isOff then false
               else ch.onStates.at p)

/-- A good DEVICE_REPLY cell for the part, from the device of the channel it names, becomes that channel's report and
makes it ONLINE (R10, R148, R149); one whose serial is the awaited command's acknowledges it, and the row that posted
the command, that post still in flight, becomes ACKED (R126, R127, R133, R159), and a claim whose release CLEAR it was
passes (R154), in a part whose release commands are CLEARs, which every command keeps (O57). A cell for the part with a
bad check or a payload length above 24 is consumed and raises CELL_CHECK alone; a DEVICE_REPLY that matches no channel,
or is too short, and a good cell of the part's other kinds are consumed and discarded (R10, R148, R190). In an owned
slot a cell for the part is taken in the same way, and the slot then carries the part's own cell as it does over any
other arriving cell (R10, R12). -/
def Obligations.DeviceReplyReachesItsChannel : Prop :=
  (∀ (a : Cell) (n : Nat) (c : ChanId) (g : ChanConfig) (s : State), s.active = true → s.intake.queue = [] →
    s.port.lockedFrame = true → s.port.position = some (n + 1) → a.kind = 5 → s.addressed a = true →
    cellGood a = true → 7 ≤ a.length.toNat → a.length.toNat ≤ 24 →
    chanOf (cellByte a 6) = some c → (s.channel c).config = some g → g.node = a.source.toNat →
    let k := (s.channel c).current
    let left := cellByte a 9 * 65536 + cellByte a 10 * 256 + cellByte a 11
    let acked := k.standing = .awaiting ∧ k.serial = cellByte a 7
    ∃ t, exec (.cellArrival a) s = .next t
      ∧ KeepsBut [.port, .channels, .firings, .lines, .intake] s t
      ∧ (∀ d, d ≠ c → (t.channel d).report = (s.channel d).report ∧ (t.channel d).health = (s.channel d).health)
      ∧ (t.channel c).report = some
          { acked := cellByte a 7, status := DevStatus.ofCode (cellByte a 8)
            remaining := if left = 0xFFFFFF then none else some left, fault := cellByte a 12 }
      ∧ (t.channel c).health = .online ∧ (t.channel c).silence = 0 ∧ (t.channel c).replied = true
      ∧ (t.channel c).current.serial = k.serial
      ∧ (t.channel c).current.standing = (if acked then .acked else k.standing)
      ∧ (acked → k.voided = false → ∀ p m, k.program = some p → k.posting = some m →
          RowsTold p m .acked s.toPart t.toPart)
      ∧ (¬ (acked ∧ k.voided = false) ∨ k.program = none ∨ k.posting = none → t.firings = s.firings)
      ∧ (∀ p q, ReleasesOk s.toPart → acked → k.isRelease = true → k.program = some q →
          (s.channel c).claim = .releasing p → (s.channel c).release = none → ClaimPassed p c s.toPart t.toPart)
      ∧ (¬ (acked ∧ k.isRelease = true) → (t.channel c).claim = (s.channel c).claim
          ∧ (t.channel c).waiting = (s.channel c).waiting))
    ∧ (∀ (a : Cell) (n : Nat) (s : State), s.active = true → s.intake.queue = [] → s.port.lockedFrame = true →
        s.port.position = some (n + 1) → isMarker a = false → s.addressed a = true →
        (cellGood a = false ∨ 24 < a.length.toNat) → s.ownerOf (n + 1) = none →
        (cellGood a = false ∨ a.kind ≠ 0 ∨ s.intake.replies = []) →
        ∃ t, exec (.cellArrival a) s = .next t ∧ EventKeeps [.port, .notices] s t
          ∧ t.port = { s.port with trunkOut := some emptyCell, position := some ((n + 2) % 48), lockedFrame := n + 1 != 47 }
          ∧ Raises .cellCheck {} s.toPart t.toPart)
    ∧ (∀ (a : Cell) (n : Nat) (s : State), s.active = true → s.intake.queue = [] → s.port.lockedFrame = true →
        s.port.position = some (n + 1) → isMarker a = false → s.addressed a = true → cellGood a = true →
        a.length.toNat ≤ 24 → s.ownerOf (n + 1) = none →
        ((a.kind ≠ 0 ∧ a.kind ≠ 2 ∧ a.kind ≠ 5) ∨ (a.kind = 0 ∧ s.intake.replies = [])
          ∨ (a.kind = 5 ∧ (a.length.toNat < 7 ∨ ∀ c, chanOf (cellByte a 6) = some c →
              (s.channel c).config.map ChanConfig.node ≠ some a.source.toNat))) →
        ∃ t, exec (.cellArrival a) s = .next t ∧ EventKeeps [.port] s t
          ∧ t.port = { s.port with trunkOut := some emptyCell, position := some ((n + 2) % 48), lockedFrame := n + 1 != 47 })
    ∧ ∀ (a b : Cell) (n : Nat) (o : Owner) (s : State), s.active = true → s.port.lockedFrame = true →
        s.port.position = some (n + 1) → isMarker a = false → isMarker b = false → s.addressed a = true →
        s.addressed b = false → s.ownerOf (n + 1) = some o →
        exec (.cellArrival a) s = exec (.cellArrival b) (s.onPart (fun t => t.consume a))

/-! ### Messages -/

/-- A command message arriving in a LOCKED frame in slots the part does not own has exactly the effect its row has on the
part, and its slots go out EMPTY: forwarding (R10), reassembly (R15), the queue (R17), taking (R18) and the parameter
layout (R192, R193) together. A message of one cell acts at once; one of several cells is gathered in a context, fragment
by fragment, and acts with its last; a fragment out of sequence drops it with FRAGMENT_DROP, and so does a new message of one
cell from its source, which then acts. The model's readings: a row
is a whole message (assumption log 8), taken when its last cell is in (assumption log 12), and the lowest FREE context
starts a message (assumption log 46). -/
def Obligations.CommandCellActsAsItsRow : Prop :=
  ∀ (i : Instr) (o : Origin) (payload data : List Byte) (n : Nat) (j : Fin 4) (f : Byte) (s : State), Listening s.toPart →
    LinesShown s.toPart → s.port.lockedFrame = true → s.port.position = some (n + 1) → s.ownerOf (n + 1) = none →
    let cell (fragment : Nat) (bs : List Byte) : Cell := makeCell 2 s.port.node o.source.toNat o.tag.toNat fragment bs
    let passed : Port :=
      { s.port with trunkOut := some emptyCell, position := some ((n + 2) % 48), lockedFrame := n + 1 != 47 }
    let fresh := ∀ m, (s.intake.contexts.at m).map Assembly.source ≠ some o.source
    let assembling (a : Assembly) : Prop := s.intake.contexts.at j = some a ∧ a.source = o.source
      ∧ ∀ m, m < j → (s.intake.contexts.at m).map Assembly.source ≠ some o.source
    let context (a : Option Assembly) : Intake := { s.intake with contexts := s.intake.contexts.upd j (fun _ => a) }
    let gathers (fragment : Nat) (k : Intake) : Prop := ∃ t, exec (.cellArrival (cell fragment data)) s = .next t
      ∧ t.port = passed ∧ t.intake = k ∧ EventKeeps [.port, .intake] s t
    let drops (fragment : Nat) (k : Intake) : Prop := ∃ t, exec (.cellArrival (cell fragment data)) s = .next t
      ∧ t.port = passed ∧ t.intake = k ∧ EventKeeps [.port, .intake, .notices] s t
      ∧ Raises .fragmentDrop { source := some o.source.toNat } s.toPart t.toPart
    (messageOf i = some (o, payload) → wellFormed i = true → payload.length ≤ 24 → fresh →
        exec (.cellArrival (cell 128 payload)) s = exec i { s with port := passed })
      ∧ (fresh → s.intake.contexts.at j = none → (∀ m, m < j → s.intake.contexts.at m ≠ none) → data.length = 24 →
          gathers 0 (context (some { source := o.source, tag := o.tag, next := 1, payload := data, age := 0 })))
      ∧ (fresh → (∀ m, s.intake.contexts.at m ≠ none) → data.length = 24 → drops 0 s.intake)
      ∧ (fresh → data.length < 24 → drops 0 s.intake)
      ∧ (fresh → f.toNat % 8 ≠ 0 → data.length ≤ 24 → drops f.toNat s.intake)
      ∧ ∀ a, assembling a →
          (a.tag = o.tag → 1 ≤ a.next → a.next ≤ 6 → data.length = 24 →
              gathers a.next (context (some { a with next := a.next + 1, payload := a.payload ++ data, age := 0 })))
            ∧ (a.tag = o.tag → 1 ≤ a.next → a.next ≤ 7 → data.length ≤ 24 →
                messageOf i = some (o, a.payload ++ data) → wellFormed i = true →
                exec (.cellArrival (cell (128 + a.next) data)) s = exec i { s with port := passed, intake := context none })
            ∧ (f.toNat % 8 ≠ 0 → data.length ≤ 24 →
                (a.tag ≠ o.tag ∨ f.toNat % 8 ≠ a.next
                  ∨ (f.toNat < 128 ∧ (data.length < 24 ∨ f.toNat % 8 = 7))) → drops f.toNat (context none))
            ∧ (messageOf i = some (o, payload) → wellFormed i = true → payload.length ≤ 24 → ∃ u : State,
                Raises .fragmentDrop { source := some o.source.toNat } s.toPart u.toPart
                  ∧ u = { s with port := passed, intake := context none, notices := u.notices
                                 noticesLost := u.noticesLost }
                  ∧ exec (.cellArrival (cell 128 payload)) s = exec i u)
            ∧ (data.length = 24 → drops 0
                (context (some { source := o.source, tag := o.tag, next := 1, payload := data, age := 0 })))
            ∧ (data.length < 24 → drops 0 (context none))

/-- Every command a message can carry is read back from the payload it is sent as: no parameter of R193 is
dropped or moved. -/
def Obligations.CommandsParseBack : Prop :=
  ∀ c : Command, c.sendable = true → parseCommand c.encode = .ok c

/-- A message that is no command is taken, has no effect but its response, and is answered MALFORMED: with detail 2 and
the code 0 for an empty payload, 0 for an unknown code, 1 for a wrong length (R18). -/
def Obligations.UnknownMessageIsMalformed : Prop :=
  ∀ (o : Origin) (payload : List Byte) (s : State), Listening s.toPart → payloadUnknown payload = true →
    ∃ t, exec (.unknownCommand o payload) s = .next t ∧ KeepsBut [.intake] s t
      ∧ (payload = [] → Replied s.toPart t.toPart o 0 (Reply.refuse .malformed 2 []))
      ∧ ∀ code rest, payload = code :: rest →
          Replied s.toPart t.toPart o code.toNat
            (Reply.refuse .malformed (if code.toNat ∈ knownCodes then 1 else 0) [])

/-- With the reply queue full no message is taken: a command waits at the tail of the intake queue, PAUSE follows the
level, and a message that finds 32 waiting is lost with INTAKE_OVERRUN (R17, R18). -/
def Obligations.CommandWaitsBehindFullReplies : Prop :=
  ∀ (i : Instr) (o : Origin) (payload : List Byte) (s : State), messageOf i = some (o, payload) → s.active = true →
    16 ≤ s.intake.replies.length →
    (s.intake.queue.length < 32 → ∃ t, exec i s = .next t ∧ KeepsBut [.intake] s t
        ∧ t.intake = { s.intake with
            queue := s.intake.queue ++ [{ origin := o, payload := payload }]
            pause := if 24 ≤ s.intake.queue.length + 1 then true
                     else if s.intake.queue.length + 1 ≤ 8 then false else s.intake.pause })
      ∧ (32 ≤ s.intake.queue.length → ∃ t, exec i s = .next t ∧ KeepsBut [.notices] s t
        ∧ Raises .intakeOverrun { source := some o.source.toNat, tag := some o.tag.toNat } s.toPart t.toPart)

/-! ### Slots, rate, and the rows of the trunk -/

/-- SET_SLOTS is refused with RANGE, without effect, for more than four reply slots, a slot outside 1 to 47, two equal
slots or a channel's slot (R13); SET_RATE with RANGE for a code above 5, and with BUSY unless every program is PARKED, or
IDLE with no ON_AIR and no NEXT entry (R26); what they accept waits for the next frame start. That the detail byte of
these answers is open is assumption log 2. -/
def Obligations.SlotsAndRateAreCheckedThenPending : Prop :=
  ∀ (o : Origin) (status rate : Byte) (replies : List Byte) (s : State), Listening s.toPart →
    let rs := replies.map BitVec.toNat
    let named := (if status = 0 then [] else [status.toNat]) ++ rs
    let good := rs.length ≤ 4 ∧ (∀ m ∈ named, 1 ≤ m ∧ m ≤ 47) ∧ named.Nodup
      ∧ ∀ m ∈ named, ∀ c, (s.channel c).slot ≠ m ∧ (s.channel c).pending.map ChanConfig.slot ≠ some m
          ∧ (s.channel c).keptNext ≠ some m
    let quiet := ∀ p, (s.runner p).state = .parked
      ∨ ((s.runner p).state = .idle ∧ s.onAirEntry p = none ∧ s.nextEntry p = none)
    (good → ∃ t, exec (.setSlots o status replies) s = .next t ∧ Answers [.port] s t o 2 (Reply.done [])
        ∧ t.port = { s.port with pendingSlots := some { status := status.toNat, replies := rs } })
      ∧ (¬ good → Refused (.setSlots o status replies) s o 2 (Reply.refusePlain .range []))
      ∧ (5 < rate.toNat → Refused (.setRate o rate) s o 3 (Reply.refusePlain .range []))
      ∧ (rate.toNat ≤ 5 → ¬ quiet → Refused (.setRate o rate) s o 3 (Reply.refusePlain .busy []))
      ∧ (rate.toNat ≤ 5 → quiet → ∃ t, exec (.setRate o rate) s = .next t
          ∧ Answers [.clock] s t o 3 (Reply.done [])
          ∧ ∃ r ∈ [Rate.r25, .r30df, .r30, .r50, .r60df, .r60], r.code = rate.toNat
            ∧ t.clock = { s.clock with pendingRate := some r })

/-- The trunk rows that are steps of a frame start of their own: accepted slots take effect (R9, R163), a pending rate
takes effect and the presenters' patterns begin again under its half-periods (R27, R171), the twelfth miss loses the
trunk and the lines hold (R7, R174), a partial message times out (R16). That such a row acts on the state as it stands,
and does nothing where its event has not come about, is assumption log 15; the slots that RESET_NODE has kept for
UNCONFIGURED channels are held as assumption log 44 says. -/
def Obligations.TrunkRowsTakeEffect : Prop :=
  (∀ s : State, s.active = true → ∃ t, exec .slotChangeTakesEffect s = .next t
      ∧ EventKeeps [.port, .channels] s t
      ∧ t.port = { s.port with slots := s.port.pendingSlots.getD s.port.slots, pendingSlots := none }
      ∧ ∀ c, t.channel c = { s.channel c with
          keptSlot := (s.channel c).keptNext.getD (s.channel c).keptSlot, keptNext := none })
    ∧ (∀ (r : Rate) (s : State), s.active = true → s.clock.pendingRate = some r →
        ∃ t, exec .rateTakesEffect s = .next t ∧ EventKeeps [.port, .clock, .presenters] s t
          ∧ t.clock = { s.clock with rate := r, pendingRate := none, day := 0, rateStart := true, tickRate := r }
          ∧ t.port = { s.port with lock := .seeking 0, lockedFrame := false, frameWasLocked := false,
                                   beganLocked := false }
          ∧ (∀ k, t.presenter k = { s.presenter k with count := 0 })
          ∧ ∀ l k, (s.line l).fn = .cue k →
              (t.line l).requested = some (decide ((s.presenter k).pattern ≠ .dark)))
    ∧ (∀ s : State, s.active = true → s.clock.pendingRate = none →
        ∃ t, exec .rateTakesEffect s = .next t ∧ EventKeeps [] s t)
    ∧ (∀ (n : Nat) (s : State), s.active = true → s.port.lock = .flywheel n → 12 ≤ n →
        ∃ t, exec .trunkLost s = .next t ∧ EventKeeps [.port, .trunkLoss, .notices] s t
          ∧ t.port = { s.port with lock := .lost } ∧ t.trunkLoss = .holding
          ∧ Raises .trunkLost {} s.toPart t.toPart)
    ∧ (∀ s : State, s.active = true → (∀ n, s.port.lock = .flywheel n → n < 12) →
        ∃ t, exec .trunkLost s = .next t ∧ EventKeeps [] s t)
    ∧ (∀ (j : Fin 4) (a : Assembly) (s : State), s.active = true → s.intake.contexts.at j = some a → 4 ≤ a.age →
        ∃ t, exec (.fragmentTimeout j) s = .next t ∧ EventKeeps [.intake, .notices] s t
          ∧ t.intake.contexts.at j = none ∧ (∀ m, m ≠ j → t.intake.contexts.at m = s.intake.contexts.at m)
          ∧ t.intake.queue = s.intake.queue ∧ t.intake.replies = s.intake.replies
          ∧ Raises .fragmentTimeout { source := some a.source.toNat } s.toPart t.toPart)
    ∧ ∀ (j : Fin 4) (s : State), s.active = true → (∀ a, s.intake.contexts.at j = some a → a.age < 4) →
        ∃ t, exec (.fragmentTimeout j) s = .next t ∧ EventKeeps [] s t

/-! ### Reads and notices -/

/-- Each READ is answered from the state as it stands and changes nothing (R59, R184, R186 to R188): RANGE for
parameters out of range, and with detail 16 for an unknown target whatever follows it (R186, R193; that its position is
1 is assumption log 17), DONE otherwise, with the bytes of a record's image, a page of a collection behind its number of
items, or the state of one block. The order of the data's fields, its counts and its presence bytes are the model's
reading (assumption log 16), that the program is tested before the other parameters its choice (assumption log 53), and
codes that R192 does not list are free (assumption log 3). ACK_NOTICE removes the first n notices, or all for 0 or more
than are present; the others keep their order, and NOTICES_LOST clears when none is left (R184). -/
def Obligations.ReadsAndAcknowledgementsAnswer : Prop :=
  ∀ (o : Origin) (a b c : Byte) (h : Half) (s : State), Listening s.toPart →
    let answered (i : Instr) (ok : Prop) : Prop :=
      ∃ t r, exec i s = .next t ∧ Answers [] s t o 4 r ∧ (ok → r.result = .done) ∧ (¬ ok → r.result = .range)
    let gives (i : Instr) (data : List Byte) : Prop :=
      ∃ t, exec i s = .next t ∧ Answers [] s t o 4 (Reply.done data)
    (∀ more : List Byte, 8 < a.toNat → LinesShown s.toPart →
        Refused (.unknownCommand o (4 :: a :: more)) s o 4 (Reply.refuse .range 16 (be1 1)))
      ∧ (answered (.readStory o a h b) (1 ≤ b.toNat ∧ b.toNat ≤ 180 ∧ h.toNat + b.toNat ≤ 768))
      ∧ (1 ≤ b.toNat ∧ b.toNat ≤ 180 ∧ h.toNat + b.toNat ≤ 768 → ∃ t, exec (.readStory o a h b) s = .next t
          ∧ Replied s.toPart t.toPart o 4 (Reply.done (a :: (be2 h.toNat ++ b ::
              (List.range b.toNat).map (fun j => (s.record a.toFin).byteAt (h.toNat + j))))))
      ∧ answered (.readList o a b c) (a.toNat ≤ 3 ∧ b.toNat ≤ 127 ∧ c.toNat ≤ 1)
      ∧ answered (.readProgram o a b) (a.toNat ≤ 3 ∧ b.toNat ≤ 127)
      ∧ answered (.readEvents o a b c) (a.toNat ≤ 3 ∧ b.toNat ≤ 1 ∧ c.toNat ≤ 15)
      ∧ answered (.readChannel o a) (1 ≤ a.toNat ∧ a.toNat ≤ 24)
      ∧ answered (.readLines o a) (1 ≤ a.toNat ∧ a.toNat ≤ 32)
      ∧ answered (.readPresenters o) True
      ∧ answered (.readNotices o a) (a.toNat ≤ 31)
      ∧ answered (.readNode o) True
      ∧ (∀ p : ProgId, p.val = a.toNat → b.toNat ≤ 127 →
          let l := (s.rundown p).entries
          let head := be1 l.length
            ++ be2 (256 - (allPrograms.map (fun q => (s.rundown q).entries.length)).sum)
            ++ be2 ((s.rundown p).mark.getD 0)
            ++ be2 (match s.nextEntry p with | some e => e.tag | none => 0)
            ++ be2 (match s.onAirEntry p with | some e => e.tag | none => 0)
            ++ [if (s.runner p).pinned then 1 else 0]
          let page (n : Nat) : List Entry := (l.drop b.toNat).take n
          (c = 0 → gives (.readList o a b c) (head ++ be1 (page 29).length ++ (page 29).flatMap (fun e =>
              be2 e.tag ++ be1 e.record.val ++ be1 e.state.code ++ beFlag e.breaking ++ be1 e.airings)))
            ∧ (c = 1 → gives (.readList o a b c) (head ++ be1 (page 10).length ++ (page 10).flatMap (fun e =>
                be2 e.tag ++ be1 p.val ++ be1 e.record.val ++ be1 e.state.code ++ beFlag e.breaking
                  ++ beOpt 4 be4 e.takeFrame ++ beOpt 4 be4 e.actual ++ be1 e.airings)))
            ∧ (let rows := ((s.timing p).rows.drop b.toNat).take 6
               gives (.readProgram o a b) (runnerBytes (s.runner p) ++ timingBytes (s.timing p) ++ be1 rows.length
                 ++ rows.flatMap (fun w => be2 w.tag ++ be4 w.p ++ be4 w.front ++ beOpt 4 be4 w.back))))
      ∧ (∀ (p : ProgId) (k : TableKind), p.val = a.toNat → TableKind.ofCode b.toNat = some k → c.toNat ≤ 15 →
          let table := (s.firing p).table k
          let rows := (table.rows.drop c.toNat).take 6
          let due (r : Row) : Option Nat := if k = .onAir then s.dueFrame p r else none
          gives (.readEvents o a b c) (be2 table.tag ++ be1 table.rows.length
            ++ [if k = .onAir ∧ table.tag ≠ 0 ∧ s.onAirEntry p = none then 1 else 0]
            ++ be1 rows.length ++ rows.flatMap (fun r => rowBytes (due r) r)))
      ∧ (∀ d : ChanId, d.val + 1 = a.toNat → gives (.readChannel o a) (channelBytes s.clock.frame (s.channel d)))
      ∧ (∀ l : LineId, l.val + 1 = a.toNat →
          let page := (allLines.drop l.val).take 5
          gives (.readLines o a) (be1 page.length ++ page.flatMap (fun m => lineBytes (s.line m))
            ++ [Config.unstatedCode 4 (match s.trunkLoss with | .normal => 0 | .holding => 1)]))
      ∧ gives (.readPresenters o) (allPresenters.flatMap (fun k => presenterBytes (s.presenter k)))
      ∧ (a.toNat ≤ 31 → let page := (s.notices.drop a.toNat).take 10
          gives (.readNotices o a) (be1 s.notices.length ++ beFlag s.noticesLost ++ be1 page.length
            ++ page.flatMap noticeBytes))
      ∧ (let t := s.port
         let x := dayLabel s.clock.rate s.clock.day
         let slots (m : SlotSet) : List Byte := beOpt 1 be1 (if m.status = 0 then none else some m.status)
           ++ be1 m.replies.length ++ m.replies.flatMap be1
         gives (.readNode o) (be1 t.node ++ be1 t.lock.code
          ++ beOpt 1 be1 (match t.lock with | .seeking n => some n | _ => none)
          ++ beOpt 1 be1 (match t.lock with | .flywheel n => some n | _ => none)
          ++ [if t.position = none then 0 else 1] ++ be1 t.sequence ++ be1 s.clock.rate.code
          ++ beOpt 1 (fun (r : Rate) => be1 r.code) s.clock.pendingRate ++ be4 s.clock.day
          ++ (be1 x.hh ++ be1 x.mm ++ be1 x.ss ++ be1 x.ff) ++ be4 s.clock.frame ++ slots t.slots
          ++ beOpt 3 slots t.pendingSlots ++ be1 s.intake.queue.length ++ be1 s.intake.replies.length
          ++ be1 ((List.finRange 4).filter (fun j => (s.intake.contexts.at j).isSome)).length ++ beFlag s.intake.pause))
      ∧ let gone := if a = 0 then s.notices.length else min a.toNat s.notices.length
        ∃ t, exec (.ackNotice o a) s = .next t ∧ t.notices = s.notices.drop gone
          ∧ t.noticesLost = (s.noticesLost && !t.notices.isEmpty)
          ∧ Answers [.notices] s t o 5 (Reply.done (be1 gone ++ be1 t.notices.length ++ beFlag t.noticesLost))

/-- Every response to a READ fits the 192 bytes of a message (R192), with the lists within their bounds: whatever the
state, no page of R187 and R188 is too long. The lengths rest on the counts and presence bytes that the model reads into
the data (assumption log 16). That at most four reply slots and three waiting programs stand is kept by every command
(O57). -/
def Obligations.ReadResponsesFitOneMessage : Prop :=
  ∀ (a b c : Byte) (h : Half) (s : Machine.Part), Bounded s → s.port.slots.replies.length ≤ 4 →
    (∀ m, s.port.pendingSlots = some m → m.replies.length ≤ 4) → (∀ d, (s.channel d).waiting.length ≤ 3) →
    ∀ r ∈ [readStory a h b s, readList a b c s, readProgram a b s, readEvents a b c s, readChannel a s, readLines a s,
        readPresenters s, readNotices a s, readNode s],
      (r.payload 4).length ≤ 192

/-- A raised notice merges with one of its kind and subject, or enters behind its equals in urgency; into a full queue
it enters only over a less urgent one, and NOTICES_LOST is then set (R182, R183). -/
def Obligations.RaisedNoticeMergesEntersOrDisplaces : Prop :=
  ∀ (k : NoticeKind) (sub : Subject) (frame : Nat) (q : List Notice) (lost : Bool),
    q.Pairwise (fun m n => m.kind.priority ≤ n.kind.priority) → q.length ≤ 32 →
    let new : Notice := { kind := k, subject := sub, first := frame, count := 1 }
    let same := fun (m : Notice) => m.kind = k ∧ m.subject = sub
    let enter := fun (l : List Notice) =>
      l.filter (fun m => m.kind.priority ≤ k.priority) ++ [new] ++ l.filter (fun m => k.priority < m.kind.priority)
    ((∃ m ∈ q, same m) → noticeRaise k sub frame q lost =
        (q.map (fun m => if same m then { m with count := min 255 (m.count + 1) } else m), lost))
      ∧ ((∀ m ∈ q, ¬ same m) → q.length < 32 → noticeRaise k sub frame q lost = (enter q, lost))
      ∧ ((∀ m ∈ q, ¬ same m) → q.length = 32 → (∀ m ∈ q, m.kind.priority ≤ k.priority) →
          noticeRaise k sub frame q lost = (q, true))
      ∧ ((∀ m ∈ q, ¬ same m) → q.length = 32 → (∃ m ∈ q, k.priority < m.kind.priority) →
          noticeRaise k sub frame q lost = (enter q.dropLast, true))

/-! ### Stories -/

/-- OPEN_STORY makes the lowest-numbered FREE record OPEN, empty but for its allotments (R45), or a copy of a READY
source, which is then retired (R46); it is refused with RANGE, NOT_FOUND, BUSY and FULL as those rules say. -/
def Obligations.OpenStoryTakesLowestFree : Prop :=
  ∀ (o : Origin) (slug note source : Byte) (cue : Half) (s : State), Listening s.toPart →
    let fits := slug.toNat ≤ 32 ∧ note.toNat ≤ 64 ∧ slug.toNat + note.toNat + cue.toNat ≤ 544
    let lowest (r : RecId) : Prop := (s.record r).state = .free ∧ ∀ q, q < r → (s.record q).state ≠ .free
    let none_free := ∀ r, (s.record r).state ≠ .free
    let plain := Instr.openStory o slug note cue
    let copy := Instr.openStoryCopyFrom o slug note cue source
    let src := s.record source.toFin
    (¬ fits → Refused plain s o 0x10 (Reply.refusePlain .range []))
      ∧ (fits → none_free → Refused plain s o 0x10 (Reply.refusePlain .full []))
      ∧ (∀ r, fits → lowest r → ∃ t, exec plain s = .next t
          ∧ Answers [.store] s t o 0x10 (Reply.done [BitVec.ofNat 8 r.val, 0])
          ∧ (∀ q, q ≠ r → t.record q = s.record q)
          ∧ t.record r = { state := .opened, version := 0, links := 0, retire := false, words := 0, sum := 0,
                           content := (t.record r).content }
          ∧ ∀ a, 8 ≤ a → a < 768 → ((t.record r).byteAt a).toNat =
              (if a = 28 then slug.toNat else if a = 29 then note.toNat else if a = 30 then cue.toNat / 256
               else if a = 31 then cue.toNat % 256 else 0))
      ∧ (src.state = .free → Refused copy s o 0x10 (Reply.refusePlain .notFound []))
      ∧ (src.state = .opened → Refused copy s o 0x10 (Reply.refusePlain .busy []))
      ∧ (src.state = .ready → none_free → Refused copy s o 0x10 (Reply.refusePlain .full []))
      ∧ ∀ r, src.state = .ready → lowest r → ∃ t, exec copy s = .next t
          ∧ Answers [.store] s t o 0x10 (Reply.done [BitVec.ofNat 8 r.val, BitVec.ofNat 8 src.version])
          ∧ (∀ q, q ≠ r → q ≠ source.toFin → t.record q = s.record q)
          ∧ t.record source.toFin = { src with retire := true }
          ∧ t.record r = { state := .opened, version := src.version, links := 0, retire := false, words := 0, sum := 0,
                           content := src.content }

/-- WRITE_STORY, in each of its three rows, is checked in the order of R47 and writes exactly the bytes of its field, its
slot or its run of text; every other byte of every image stays (R47 to R50, R194). -/
def Obligations.WriteStoryWritesItsBytesOnly : Prop :=
  ∀ (o : Origin) (record : Byte) (index : Half) (data : List Byte) (s : State), Listening s.toPart →
    Memory.wf (s.record record.toFin).content →
    let r := record.toFin
    let x := s.record r
    let bad (i : Instr) : Prop := Refused i s o 0x11 (Reply.refuse .malformed 1 [])
    let busy (i : Instr) : Prop := Refused i s o 0x11 (Reply.refusePlain .busy (be1 x.state.code))
    let range (i : Instr) : Prop := Refused i s o 0x11 (Reply.refusePlain .range [])
    let writes (i : Instr) (at_ : Nat) (bs : List Byte) (res : ResultCode) : Prop :=
      ∃ t, exec i s = .next t
        ∧ Answers [.store] s t o 0x11 { result := res, detail := none, data := be1 bs.length }
        ∧ (∀ q, q ≠ r → t.record q = s.record q)
        ∧ t.record r = { x with content := (t.record r).content } ∧ Memory.wf (t.record r).content
        ∧ ∀ a, (t.record r).byteAt a =
            if at_ ≤ a ∧ a < at_ + bs.length then bs.getD (a - at_) 0 else x.byteAt a
    (∀ f ∈ ([(1, 8, 1, 16), (2, 9, 1, 2), (3, 10, 1, 24), (4, 11, 1, 16), (5, 12, 2, 3), (6, 14, 4, 4294967295),
          (7, 18, 2, 65535), (8, 20, 4, 4294967295), (9, 24, 4, 4294967295)] : List (Nat × Nat × Nat × Nat)),
        let i := Instr.writeStorySetting o record (BitVec.ofNat 8 f.1) index data
        (data.length ≠ f.2.2.1 → bad i)
          ∧ (data.length = f.2.2.1 → x.state ≠ .opened → busy i)
          ∧ (data.length = f.2.2.1 → x.state = .opened → f.2.2.2 < beNat data → range i)
          ∧ (data.length = f.2.2.1 → x.state = .opened → beNat data ≤ f.2.2.2 → writes i f.2.1 data .done))
      ∧ (∀ f : Byte, (f = 0 ∨ 13 < f.toNat) → bad (.writeStorySetting o record f index data))
      ∧ (let i := Instr.writeStoryEventSlot o record index data
         let known := (1 ≤ (data.getD 0 0).toNat ∧ (data.getD 0 0).toNat ≤ 4)
           ∧ (1 ≤ (data.getD 1 0).toNat ∧ (data.getD 1 0).toNat ≤ 24)
           ∧ (1 ≤ (data.getD 2 0).toNat ∧ (data.getD 2 0).toNat ≤ 9)
         (data.length ≠ 12 → bad i)
           ∧ (data.length = 12 → x.state ≠ .opened → busy i)
           ∧ (data.length = 12 → x.state = .opened → ¬ (index.toNat ≤ 15 ∧ known) → range i)
           ∧ (data.length = 12 → x.state = .opened → index.toNat ≤ 15 → known →
               writes i (32 + 12 * index.toNat) data .done))
      ∧ ∀ f : TextField,
          let i := Instr.writeStoryText o record f index data
          let size := match f with
            | .slug => (x.byteAt 28).toNat
            | .note => (x.byteAt 29).toNat
            | .cueText => 256 * (x.byteAt 30).toNat + (x.byteAt 31).toNat
          let start := match f with
            | .slug => 224
            | .note => 224 + (x.byteAt 28).toNat
            | .cueText => 224 + (x.byteAt 28).toNat + (x.byteAt 29).toNat
          let n := min data.length (size - index.toNat)
          (data.length = 0 ∨ 187 < data.length → bad i)
            ∧ (1 ≤ data.length → data.length ≤ 187 → x.state ≠ .opened → busy i)
            ∧ (1 ≤ data.length → data.length ≤ 187 → x.state = .opened →
                writes i (start + index.toNat) (data.take n) (if n < data.length then .doneTruncated else .done))

/-- CLOSE_STORY is refused in the cases of R53, in their order; otherwise the record becomes READY with its version
raised, its content sum and its word count stored, and its content as it was (R51, R54). The word count is the number of
places in the cue text, up to the field's end, where a word begins: a byte that is no separator and stands in no presenter
instruction, at the head of the field or behind a byte that is either (R44, R52). -/
def Obligations.CloseStoryChecksThenReadies : Prop :=
  ∀ (o : Origin) (record : Byte) (expected : Half) (s : State), Listening s.toPart →
    let r := record.toFin
    let x := s.record r
    let i := Instr.closeStory o record expected
    let sum := ((List.range 760).map (fun j => (x.byteAt (8 + j)).toNat)).sum % 65536
    let at_ := 224 + (x.byteAt 28).toNat + (x.byteAt 29).toNat
    let field := (List.range (256 * (x.byteAt 30).toNat + (x.byteAt 31).toNat)).map (fun j => x.byteAt (at_ + j))
    let text := field.takeWhile (fun b => b != 0)
    let inside (j : Nat) : Bool := (List.range (j + 1)).any (fun m => text[m]? == some 0x5B
      && (List.range j).all (fun l => !(decide (m ≤ l) && text[l]? == some 0x5D)))
    let spoken (j : Nat) : Bool := text[j]?.any (fun b => b != 0x20 && b != 0x0A && b != 0x0D) && !inside j
    let words := ((List.range text.length).filter (fun j => spoken j && (j == 0 || !spoken (j - 1)))).length
    (x.state = .free → Refused i s o 0x12 (Reply.refusePlain .notFound []))
      ∧ (x.state = .ready → Refused i s o 0x12 (Reply.refusePlain .busy (be1 x.version)))
      ∧ (x.state = .opened → sum ≠ expected.toNat → Refused i s o 0x12 (Reply.refusePlain .sumMismatch (be2 sum)))
      ∧ (∀ j, x.state = .opened → sum = expected.toNat → j < x.eventCount → x.slotComplete j = false →
          (∀ m, m < j → x.slotComplete m = true) → Refused i s o 0x12 (Reply.refusePlain .range (be1 j)))
      ∧ (x.state = .opened → sum = expected.toNat → (∀ m, m < x.eventCount → x.slotComplete m = true) →
          ∃ t, exec i s = .next t
            ∧ Answers [.store] s t o 0x12
                (Reply.done (be1 ((x.version + 1) % 256) ++ be2 words ++ be2 sum))
            ∧ (∀ q, q ≠ r → t.record q = s.record q)
            ∧ t.record r = { x with state := .ready, version := (x.version + 1) % 256, words := words
                                    sum := sum })

/-- FREE_STORY frees an OPEN or READY record without links (R55); a removed link lowers the count, and a retired record
that loses its last one is FREE at once (R57). -/
def Obligations.StoriesAreFreedWhenUnlinked : Prop :=
  (∀ (o : Origin) (record : Byte) (s : State), Listening s.toPart →
      let r := record.toFin
      let x := s.record r
      let i := Instr.freeStory o record
      (x.state = .free → Refused i s o 0x13 (Reply.refusePlain .notFound []))
        ∧ (x.state ≠ .free → 0 < x.links → Refused i s o 0x13 (Reply.refusePlain .busy (be1 x.links)))
        ∧ (x.state ≠ .free → x.links = 0 → ∃ t, exec i s = .next t ∧ Answers [.store] s t o 0x13 (Reply.done [])
            ∧ (∀ q, q ≠ r → t.record q = s.record q) ∧ (t.record r).state = .free
            ∧ ∀ a, a < 768 → (t.record r).byteAt a = 0))
    ∧ ∀ (r : RecId) (s : Machine.Part), 0 < (s.record r).links →
        (∀ q, q ≠ r → (s.removeLink r).record q = s.record q)
          ∧ ((s.record r).links = 1 → (s.record r).retire = true →
              ∀ a, a < 768 → ((s.removeLink r).record r).byteAt a = 0)
          ∧ (¬ ((s.record r).links = 1 ∧ (s.record r).retire = true) →
              (s.removeLink r).record r = { s.record r with links := (s.record r).links - 1 })

/-! ### Lists -/

/-- A program code above 3 is refused with RANGE, detail 1, and has no other effect, by every well-formed command that
carries a program (R65, R84, R186); one that is malformed as well is answered MALFORMED (R18, R68). That a READ answers
so whatever its other parameters is the model's choice (R186, assumption log 53). -/
def Obligations.ProgramCodesAboveThreeAreRefused : Prop :=
  ∀ (i : Instr) (o : Origin) (code : Nat) (program : Byte) (s : State), Listening s.toPart → wellFormed i = true →
    programOf i = some (o, code, program) → 3 < program.toNat → Refused i s o code (Reply.refuse .range 1 [])

/-- INSERT_ENTRY is checked in the order of R67, then puts a PENDING entry with a link after the entry named, and next
selection is made (R77); the answer carries the data of R65. -/
def Obligations.InsertEntryPlacesAndLinks : Prop :=
  ∀ (o : Origin) (program record : Byte) (tag after : Half) (p : ProgId) (s : State), Listening s.toPart →
    program.toNat = p.val → ProgramOk s.toPart p →
    let l := (s.rundown p).entries
    let i := Instr.insertEntry o program tag record after
    let fault := s.creationFault p [] (tag, record)
    let missing := after ≠ 0 ∧ after.toNat ∉ l.map Entry.tag
    (∀ d, fault = some (.range, d) → Refused i s o 0x20 (Reply.refuse .range d []))
      ∧ (missing → (∀ d, fault ≠ some (.range, d)) → Refused i s o 0x20 (Reply.refuse .notFound 5 []))
      ∧ (∀ c d, fault = some (c, d) → c ≠ .range → ¬ missing →
          Refused i s o 0x20 (Reply.refuse c d (if d = 10 then [record] else [])))
      ∧ ∀ a b, fault = none → SplitsAfter l after.toNat a b →
          ∃ t, exec i s = .next t ∧ Replied s.toPart t.toPart o 0x20 (Reply.done (t.listReport p))
            ∧ LinesFollow s.toPart t.toPart ∧ ListKeeps p s t
            ∧ t.rundown p = s.selection p { s.rundown p with entries := a ++ createdBy (tag, record) :: b }
            ∧ (t.runner p).state = (s.runner p).state ∧ (t.runner p).pinned = (s.runner p).pinned
            ∧ ∀ r, t.record r =
                if r = record.toFin then { s.record r with links := (s.record r).links + 1 } else s.record r

/-- APPEND_ENTRIES, with 1 to 30 pairs, applies them in order at the tail up to the first that fails a check of R67:
those before it stay, with their links, and the answer is that pair's refusal; next selection is made once (R68). That
the data of a refusal of detail 10 carries the failing pair's record number (R65) behind the data of R68, and that next
selection is made and the data taken also when no pair was applied, is the model's reading (assumption log 33). -/
def Obligations.AppendEntriesStopsAtFirstFault : Prop :=
  ∀ (o : Origin) (program : Byte) (placed rest : List (Half × Byte)) (p : ProgId) (s : State), Listening s.toPart →
    program.toNat = p.val → ProgramOk s.toPart p → 1 ≤ (placed ++ rest).length → (placed ++ rest).length ≤ 30 →
    (∀ a x b, placed = a ++ x :: b → s.creationFault p a x = none) →
    (∀ x more, rest = x :: more → s.creationFault p placed x ≠ none) →
    ∃ t, exec (.appendEntries o program (placed ++ rest)) s = .next t
      ∧ Replied s.toPart t.toPart o 0x21
          (match rest with
           | [] => Reply.done (be1 placed.length ++ t.listReport p)
           | x :: _ => match s.creationFault p placed x with
             | some (c, d) =>
               Reply.refuse c d (be1 placed.length ++ t.listReport p ++ (if d = 10 then [x.2] else []))
             | none => Reply.done [])
      ∧ LinesFollow s.toPart t.toPart ∧ ListKeeps p s t
      ∧ t.rundown p = s.selection p { s.rundown p with entries := (s.rundown p).entries ++ placed.map createdBy }
      ∧ (t.runner p).state = (s.runner p).state ∧ (t.runner p).pinned = (s.runner p).pinned
      ∧ ∀ r, t.record r = { s.record r with
          links := (s.record r).links + (placed.filter (fun x => x.2.toFin == r)).length }

/-- MOVE_ENTRY is checked in the order of R69, then takes the entry out of its place and puts it after the entry named,
its fields unchanged but for what next selection makes of its state. -/
def Obligations.MoveEntryReplaces : Prop :=
  ∀ (o : Origin) (program : Byte) (tag after : Half) (p : ProgId) (s : State), Listening s.toPart →
    program.toNat = p.val → ProgramOk s.toPart p →
    let l := (s.rundown p).entries
    let i := Instr.moveEntry o program tag after
    let missing := after ≠ 0 ∧ after.toNat ∉ l.map Entry.tag
    (tag.toNat ∉ l.map Entry.tag → Refused i s o 0x22 (Reply.refuse .notFound 4 []))
      ∧ ∀ e ∈ l, e.tag = tag.toNat →
          (missing → Refused i s o 0x22 (Reply.refuse .notFound 5 []))
            ∧ (¬ missing → after = tag → Refused i s o 0x22 (Reply.refuse .range 11 []))
            ∧ (¬ missing → after ≠ tag → e.state = .onAir → Refused i s o 0x22 (Reply.refuse .busy 6 [2]))
            ∧ ∀ a b, after ≠ tag → e.state ≠ .onAir →
                SplitsAfter (l.filter (fun x => x.tag != e.tag)) after.toNat a b →
                ∃ t, exec i s = .next t ∧ Replied s.toPart t.toPart o 0x22 (Reply.done (t.listReport p))
                  ∧ LinesFollow s.toPart t.toPart ∧ ListKeeps p s t ∧ t.store = s.store
                  ∧ t.rundown p = s.selection p { s.rundown p with entries := a ++ e :: b }
                  ∧ (t.runner p).state = (s.runner p).state ∧ (t.runner p).pinned = (s.runner p).pinned

/-- DROP_ENTRY makes a PENDING or NEXT entry DROPPED, which clears the pin of a pinned one; RESTORE_ENTRY makes a
DROPPED entry PENDING; next selection follows, and no link changes (R66, R70, R71, R80). -/
def Obligations.DropAndRestoreChangeOneState : Prop :=
  ∀ (o : Origin) (program : Byte) (tag : Half) (p : ProgId) (s : State), Listening s.toPart →
    program.toNat = p.val → ProgramOk s.toPart p →
    let l := (s.rundown p).entries
    let drop := Instr.dropEntry o program tag
    let restore := Instr.restoreEntry o program tag
    let put (st : EntryState) : Rundown :=
      { s.rundown p with entries := l.map (fun x => if x.tag = tag.toNat then { x with state := st } else x) }
    let done (i : Instr) (code : Nat) (new : Rundown) (pin : Bool) : Prop :=
      ∃ t, exec i s = .next t ∧ Replied s.toPart t.toPart o code (Reply.done (t.listReport p))
        ∧ LinesFollow s.toPart t.toPart ∧ ListKeeps p s t ∧ t.store = s.store ∧ t.rundown p = new
        ∧ (t.runner p).state = (s.runner p).state ∧ (t.runner p).pinned = pin
    (tag.toNat ∉ l.map Entry.tag → Refused drop s o 0x23 (Reply.refuse .notFound 4 [])
        ∧ Refused restore s o 0x24 (Reply.refuse .notFound 4 []))
      ∧ ∀ e ∈ l, e.tag = tag.toNat →
          (e.state = .pending → done drop 0x23 (s.selection p (put .dropped)) (s.runner p).pinned)
            ∧ (e.state = .next → done drop 0x23 { put .dropped with entries := (put .dropped).reselected } false)
            ∧ (e.state = .dropped → ∃ t, exec drop s = .next t ∧ Answers [] s t o 0x23 (Reply.done (s.listReport p)))
            ∧ (e.state = .onAir ∨ e.state = .done →
                Refused drop s o 0x23 (Reply.refuse .busy 6 (be1 e.state.code)))
            ∧ (e.state = .dropped → done restore 0x24 (s.selection p (put .pending)) (s.runner p).pinned)
            ∧ (e.state ≠ .dropped → Refused restore s o 0x24 (Reply.refuse .busy 6 (be1 e.state.code)))

/-- RELINK_ENTRY moves the entry's link to the new record, in every state of the entry, with every other field of every
entry kept; a refused link leaves everything as it was, and the same record changes nothing, at 255 links too (R58, R72;
assumption log 35). A relink on air clears the timing run seen flag when the timing channel changes (R91), rebuilds the
ON_AIR table, a matched row taking over the old due elapsed too (assumption log 31), with a notice of each past-due row
unless the queue is full, adds the new story's channels to the airing set, in REHEARSAL too (assumption log 27), and
claims them in LIVE as claim requests are decided (R134; O51). A relink of the NEXT entry leaves NEXT with the old story
and becomes NEXT with the new one: its NEXT table is the new story's, and a LIVE program releases what it holds and no
longer needs (R97, R130, R135; O35). -/
def Obligations.RelinkMovesOneLink : Prop :=
  ∀ (o : Origin) (program record : Byte) (tag : Half) (p : ProgId) (s : State), Listening s.toPart →
    program.toNat = p.val → ProgramOk s.toPart p →
    let l := (s.rundown p).entries
    let i := Instr.relinkEntry o program tag record
    let new := record.toFin
    let x := s.record new
    (tag.toNat ∉ l.map Entry.tag → Refused i s o 0x25 (Reply.refuse .notFound 4 []))
      ∧ ∀ e ∈ l, e.tag = tag.toNat →
          (e.record = new → ∃ t, exec i s = .next t ∧ Answers [] s t o 0x25 (Reply.done (s.listReport p)))
            ∧ (e.record ≠ new → x.state = .free → Refused i s o 0x25 (Reply.refuse .notFound 10 [record]))
            ∧ (e.record ≠ new → x.state = .opened → Refused i s o 0x25 (Reply.refuse .busy 10 [record]))
            ∧ (e.record ≠ new → x.state = .ready → 255 ≤ x.links →
                Refused i s o 0x25 (Reply.refuse .full 10 [record]))
            ∧ (e.record ≠ new → x.state = .ready → x.links < 255 →
                ∃ t, exec i s = .next t ∧ Replied s.toPart t.toPart o 0x25 (Reply.done (t.listReport p))
                  ∧ LinesFollow s.toPart t.toPart
                  ∧ KeepsBut [.intake, .lines, .store, .rundowns, .runners, .firings, .airing, .channels, .notices] s t
                  ∧ OthersKept p s.toPart t.toPart
                  ∧ t.runner p = { s.runner p with runSeen := (t.runner p).runSeen }
                  ∧ t.rundown p = { s.rundown p with
                      entries := l.map (fun y => if y.tag = tag.toNat then { y with record := new } else y) }
                  ∧ (e.state ≠ .onAir → e.state ≠ .next → t.runner p = s.runner p ∧ t.firings = s.firings
                      ∧ t.channels = s.channels ∧ t.airing = s.airing)
                  ∧ (e.state = .onAir →
                      let used (c : ChanId) : Prop := x.uses c = true ∧ (s.channel c).shareable = false
                      let late := (s.elapsed p).getD 0
                      (t.firing p).next = (s.firing p).next ∧ (t.firing p).onAir.tag = (s.firing p).onAir.tag
                        ∧ (t.firing p).onAir.prompter = x.prompterId
                        ∧ (∃ hits, RowsRebuilt (s.firing p).onAir.rows x.rows (t.firing p).onAir.rows late hits
                            ∧ ∀ (j : Nat) n, x.rows[j]? = some n → hits[j]? = some none → n.anchor = .fromTake →
                                n.offset ≤ late → (∃ m ∈ t.notices, m.kind = .skipped
                                  ∧ m.subject = cueSubject p (s.firing p).onAir.tag n.channel) ∨ 32 ≤ t.notices.length)
                        ∧ (t.runner p).runSeen =
                            ((s.runner p).runSeen && (s.record e.record).timing? == x.timing?)
                        ∧ (∀ c, c ∈ t.airingSet p ↔ (c ∈ s.airingSet p ∨ used c))
                        ∧ ((s.runner p).mode = .rehearsal → t.channels = s.channels)
                        ∧ ((s.runner p).mode = .live → ∀ c,
                            (used c → t.channel c = (s.claimRequest p c).channel c)
                              ∧ (¬ used c → t.channel c = s.channel c)))
                  ∧ (e.state = .next →
                      let needed (c : ChanId) : Prop := x.uses c = true ∧ (s.channel c).shareable = false
                        ∧ (s.runner p).givenUp = false
                      t.airing = s.airing ∧ (t.firing p).onAir = (s.firing p).onAir ∧ t.runner p = s.runner p
                        ∧ ((s.runner p).mode = .rehearsal → t.channels = s.channels)
                        ∧ (t.firing p).next.tag = e.tag ∧ (t.firing p).next.prompter = x.prompterId
                        ∧ (t.firing p).next.rows.length = x.rows.length
                        ∧ (∀ (j : Nat) n, x.rows[j]? = some n → n.anchor ≠ .onNext ∨ (s.runner p).givenUp = true →
                            (t.firing p).next.rows[j]? = some n)
                        ∧ ((s.runner p).mode = .live → ∀ c,
                            ((s.channel c).claim = .free → (t.channel c).claim = if needed c then .held p else .free)
                              ∧ ((s.channel c).claim = .held p → (t.channel c).claim =
                                  if needed c ∨ c ∈ s.airingSet p then .held p else .releasing p)))
                  ∧ ∀ r, t.record r =
                      if r = new then { x with links := x.links + 1 }
                      else if r = e.record then (s.record r).without 1
                      else s.record r)

/-- TRIM_DONE removes the DONE entries and CLEAR_RUNDOWN all entries, each with its link; a trim passes the take mark to
the nearest kept entry before it, and a clear needs a PARKED program, or an IDLE one with nothing on air or next
(R73, R74, R76). -/
def Obligations.TrimAndClearRemoveEntries : Prop :=
  ∀ (o : Origin) (program : Byte) (p : ProgId) (s : State), Listening s.toPart →
    program.toNat = p.val → ProgramOk s.toPart p →
    let l := s.rundown p
    let gone := l.entries.filter (fun e => e.state == .done)
    let kept := l.entries.filter (fun e => e.state != .done)
    let mark := match l.entries.find? (fun e => l.mark == some e.tag) with
      | none => none
      | some m => if m.state = .done then
          (((l.entries.takeWhile (fun e => e.tag != m.tag)).filter (fun e => e.state != .done)).getLast?).map Entry.tag
        else some m.tag
    let unlinked (out : List Entry) (t : State) : Prop :=
      ∀ r, t.record r = (s.record r).without ((out.filter (fun e => e.record == r)).length)
    let clearable := (s.runner p).state = .parked
      ∨ ((s.runner p).state = .idle ∧ s.onAirEntry p = none ∧ s.nextEntry p = none)
    (∃ t, exec (.trimDone o program) s = .next t
        ∧ Replied s.toPart t.toPart o 0x26 (Reply.done (be1 gone.length ++ t.listReport p))
        ∧ LinesFollow s.toPart t.toPart ∧ ListKeeps p s t ∧ unlinked gone t
        ∧ t.rundown p = s.selection p { entries := kept, mark := mark }
        ∧ (t.runner p).state = (s.runner p).state ∧ (t.runner p).pinned = (s.runner p).pinned)
      ∧ (clearable → ∃ t, exec (.clearRundown o program) s = .next t
          ∧ Replied s.toPart t.toPart o 0x27 (Reply.done (be1 l.entries.length ++ t.listReport p))
          ∧ LinesFollow s.toPart t.toPart ∧ KeepsBut [.intake, .lines, .store, .rundowns] s t
          ∧ OthersKept p s.toPart t.toPart ∧ unlinked l.entries t ∧ t.rundown p = { entries := [], mark := none })
      ∧ (¬ clearable → Refused (.clearRundown o program) s o 0x27
          (Reply.refuse .busy 7 (be1 (s.runner p).state.code)))

/-- SET_NEXT makes a PENDING, DONE or DROPPED entry NEXT and pins it, the former NEXT entry becoming PENDING; in a
PARKED program it unparks to IDLE first; an ON_AIR entry and a parking program refuse it (R79). An entry that becomes
NEXT, by this or any other command or step, brings the NEXT table of its story (R127), in LIVE a claim request on each
non-shareable channel it uses (R97, R150; O51), and its ON_NEXT rows fired, unless the preroll is given up (R130). One
that leaves NEXT brings an empty table; in LIVE a release of each channel held that the airing does not use, and a CLEAR
at the tail of each other channel to which an ON_NEXT row went (R97, R130, R153); in REHEARSAL CLEARs at the echo for
the latter and for those of R140. The model's readings: what the ON_AIR entry uses is the airing set, kept in REHEARSAL
too (assumption log 27); releases and CLEARs go by rising channel number (assumption log 11), the CLEARs take no posting number
(assumption log 13) and carry 0 and 0 (assumption log 47), and a full echo drops them (assumption log 48). -/
def Obligations.SetNextPinsTheEntry : Prop :=
  (∀ (o : Origin) (program : Byte) (tag : Half) (p : ProgId) (s : State), Listening s.toPart →
    program.toNat = p.val → ProgramOk s.toPart p →
    let l := (s.rundown p).entries
    let i := Instr.setNext o program tag
    (tag.toNat ∉ l.map Entry.tag → Refused i s o 0x28 (Reply.refuse .notFound 4 []))
      ∧ ∀ e ∈ l, e.tag = tag.toNat →
          ((s.runner p).state = .parkPending → Refused i s o 0x28 (Reply.refuse .busy 7 [3]))
            ∧ ((s.runner p).state ≠ .parkPending → e.state = .onAir → Refused i s o 0x28 (Reply.refuse .busy 6 [2]))
            ∧ ((s.runner p).state ≠ .parkPending → e.state ≠ .onAir →
                ∃ t, exec i s = .next t ∧ Replied s.toPart t.toPart o 0x28 (Reply.done (t.listReport p))
                  ∧ LinesFollow s.toPart t.toPart ∧ ListKeeps p s t ∧ t.store = s.store
                  ∧ t.rundown p = { s.rundown p with entries := l.map (fun x =>
                      if x.tag = tag.toNat then { x with state := .next }
                      else if x.state = .next then { x with state := .pending } else x) }
                  ∧ (t.runner p).pinned = true
                  ∧ (t.runner p).state = (if (s.runner p).state = .parked then .idle else (s.runner p).state)
                  ∧ ((s.runner p).mode = .live → e.state ≠ .next → ∀ c,
                      let ch := s.channel c
                      let needed := (s.record e.record).uses c = true ∧ ch.shareable = false
                      (ch.claim = .free → needed → (t.channel c).claim = .held p)
                        ∧ (ch.claim = .free → ¬ needed → (s.runner p).state ≠ .parked → (t.channel c).claim = .free)
                        ∧ (ch.claim = .held p → needed ∨ c ∈ s.airingSet p → (t.channel c).claim = .held p)
                        ∧ (ch.claim = .held p → ¬ needed → c ∉ s.airingSet p → s.nextEntry p ≠ none →
                            (t.channel c).claim = .releasing p))))
    ∧ (∀ (p : ProgId) (tag : Nat) (r : RecId) (s : Machine.Part), (s.firing p).posting < 65536 →
        s.nextEntry p ≠ none → (∀ e ∈ s.nextEntry p, e.record = r) →
        let t := s.becomeEffects p tag r
        let x := s.record r
        let asks (c : ChanId) : Prop := (s.runner p).mode = .live ∧ (s.runner p).givenUp = false ∧ x.uses c = true
          ∧ (s.channel c).shareable = false
        ∃ u : Machine.Part,
          u = { s with firings := u.firings, channels := u.channels, notices := u.notices, noticesLost := u.noticesLost }
            ∧ u.firing p = { s.firing p with next := { tag := tag, prompter := x.prompterId, rows := x.rows } }
            ∧ (∀ c, u.channel c = if asks c then (s.claimRequest p c).channel c else s.channel c)
            ∧ ((s.runner p).givenUp = true → t = u)
            ∧ ((s.runner p).givenUp = false → RowsFired p .next (fun n => n.anchor == .onNext) u t))
    ∧ ∀ (p : ProgId) (story : RecId) (incoming : Option RecId) (s : Machine.Part),
        let t := s.leaveEffects p story incoming
        let live := (s.runner p).mode = .live
        let sent (c : ChanId) : Prop := ∃ r ∈ (s.firing p).next.rows, r.anchor = .onNext ∧ r.channel = c ∧ r.held = none
          ∧ r.outcome ∈ [RowOutcome.posted, .issued, .acked, .noAck]
        let lets (c : ChanId) : Prop := (s.channel c).claim = .held p ∧ c ∉ s.airingSet p
        let spare (c : ChanId) : Prop := (s.record story).uses c = true ∧ (s.channel c).shareable = false
          ∧ c ∉ s.airingSet p ∧ ∀ r ∈ incoming, (s.record r).uses c = false
        let clear : QCommand :=
          { program := p, action := .clear, param := 0, asset := 0, posting := none, tag := 0, frame := s.clock.frame }
        let echoed := (allChannels.filter (fun c => decide (sent c ∨ spare c))).map (fun c =>
          ({ channel := c, action := .clear, posting := none, issued := false } : EchoCmd))
        t = { s with firings := t.firings, channels := t.channels } ∧ (∀ q, q ≠ p → t.firing q = s.firing q)
          ∧ t.firing p = { s.firing p with
              next := { tag := 0, prompter := 0, rows := [] }
              echo := (s.firing p).echo ++ if live then [] else echoed.take (64 - (s.firing p).echo.length) }
          ∧ ∀ c, let ch := s.channel c
              t.channel c =
                if live ∧ lets c then { ch with claim := .releasing p, release := some clear }
                else if live ∧ sent c ∧ (ch.shareable = true ∨ ch.claim = .held p) ∧ ch.queue.length < 8 then
                  { ch with queue := ch.queue ++ [clear] }
                else ch

/-! ### Running a program -/

/-- TAKE is checked in the order of R88 and then takes the NEXT entry, in PARK_PENDING the one next selection gives with
the park cancelled; a refused TAKE in a PARKED program leaves it unparked (R19, R101). The NEXT table becomes the ON_AIR
table, due by the P last handed on, and its rows of due elapsed 0 go out in row order (R128, R131); the old table is
settled first: rows due by the final elapsed go out, a ROLL that the gate would stop, a held one and every other WAITING row
but a MANUAL one being SKIPPED (R132); channels no longer needed are released (R88). The model's readings: the place of the
DONE entry's tag behind the data of R84 (assumption log 34), the P of an entry that no frame start has reckoned (assumption
log 7), the airing set in REHEARSAL too (assumption log 27), and the posting number that a held ROLL keeps (assumption
log 30). -/
def Obligations.TakePutsNextOnAir : Prop :=
  (∀ (o : Origin) (program : Byte) (expected : Half) (p : ProgId) (s : State), Listening s.toPart →
    program.toNat = p.val → ProgramOk s.toPart p →
    let i := Instr.take o program expected
    let st := (s.runner p).state
    let target := if st = .parkPending then (s.rundown p).afterMark.find? Entry.waits else s.nextEntry p
    (st = .parked → ∃ t, exec i s = .next t
        ∧ Replied s.toPart t.toPart o 0x30 (Reply.refuse .notFound 12 []) ∧ LinesFollow s.toPart t.toPart
        ∧ ListKeeps p s t ∧ t.store = s.store ∧ (t.runner p).state = .idle
        ∧ t.rundown p = { s.rundown p with entries := (s.rundown p).reselected })
      ∧ (st ≠ .parked → target = none → Refused i s o 0x30 (Reply.refuse .notFound 12 []))
      ∧ ∀ n, st ≠ .parked → target = some n →
          (expected ≠ 0 → expected.toNat ≠ n.tag → Refused i s o 0x30 (Reply.refuse .busy 13 (be2 n.tag)))
            ∧ ((expected = 0 ∨ expected.toNat = n.tag) → ∃ t, exec i s = .next t
                ∧ TakeMade p n id (match (s.timing p).rows.find? (fun w => w.tag == n.tag) with
                    | some w => w.p
                    | none => s.planned n.record) s t
                ∧ Replied s.toPart t.toPart o 0x30 (Reply.done (t.runReport p
                    ++ be2 (match s.onAirEntry p with | some e => e.tag | none => 0)))
                ∧ LinesFollow s.toPart t.toPart))
    ∧ ∀ (p : ProgId) (final : Nat) (s : Machine.Part), (s.firing p).posting < 65536 →
        let due (n : Nat) (r : Row) : Bool := (r.anchor == .fromTake || r.anchor == .fromEnd) && r.outcome == .waiting
          && r.due.any (fun d => decide (d ≤ n))
        let settled (r : Row) : Row :=
          if r.held ≠ none ∨ (r.outcome = .waiting ∧ r.anchor ≠ .manual) then { r with outcome := .skipped, held := none }
          else r
        RowsFired p .onAir (due 0) s (s.postAtTake p)
          ∧ ∃ u : Machine.Part, RowsFired p .onAir (fun r => due final r && !decide (GateShut s p r)) s u
            ∧ s.settleTable p final = u.onFiring p (fun f =>
                { f with onAir := { f.onAir with rows := f.onAir.rows.map settled } })

/-- HOLD freezes the elapsed of R86 and RELEASE lets it run on from there, the frames held going into the hold
correction; each is answered DONE without effect in the state it leads to, and BUSY outside RUNNING and HELD (R86, R89,
R90). -/
def Obligations.HoldFreezesAndReleaseResumes : Prop :=
  ∀ (o : Origin) (program : Byte) (p : ProgId) (s : State), Listening s.toPart → program.toNat = p.val →
    let hold := Instr.hold o program
    let release := Instr.release o program
    let r := s.runner p
    let other := r.state = .idle ∨ r.state = .parkPending ∨ r.state = .parked
    (∀ e taken, r.state = .running → s.onAirEntry p = some e → e.takeFrame = some taken → r.held = none →
        ∃ t, exec hold s = .next t ∧ Answers [.runners] s t o 0x31 (Reply.done (t.runReport p))
          ∧ (∀ q, q ≠ p → t.runner q = s.runner q)
          ∧ ∃ x, x < 4294967296 ∧ (x + taken + r.correction) % 4294967296 = s.clock.frame % 4294967296
            ∧ t.runner p = { r with state := .held, held := some x })
      ∧ (r.state = .held → ∃ t, exec hold s = .next t ∧ Answers [] s t o 0x31 (Reply.done (s.runReport p)))
      ∧ (other → Refused hold s o 0x31 (Reply.refuse .busy 7 (be1 r.state.code)))
      ∧ (∀ e taken x, r.state = .held → s.onAirEntry p = some e → e.takeFrame = some taken → r.held = some x →
          x < 4294967296 →
          ∃ t, exec release s = .next t ∧ Answers [.runners] s t o 0x32 (Reply.done (t.runReport p))
            ∧ (∀ q, q ≠ p → t.runner q = s.runner q)
            ∧ (∃ c, c < 4294967296 ∧ (c + x + taken) % 4294967296 = s.clock.frame % 4294967296
                ∧ t.runner p = { r with state := .running, held := none, correction := c })
            ∧ t.elapsed p = some x)
      ∧ (r.state = .running → ∃ t, exec release s = .next t ∧ Answers [] s t o 0x32 (Reply.done (s.runReport p)))
      ∧ (other → Refused release s o 0x32 (Reply.refuse .busy 7 (be1 r.state.code)))

/-- END_SHOW ends the airing, gives up the preroll of the NEXT entry, which stays NEXT, settles the ON_AIR table (R132;
O36), empties the airing set, and asks every channel the program holds to be released by a CLEAR, or in REHEARSAL has a
CLEAR at the echo for each channel used no longer (R140); in PARK_PENDING the state stays, and in IDLE and PARKED it is
refused (R98, R153). The model's readings: in PARK_PENDING the show start goes and the given-up flag stays (assumption
log 37), the added tag stands behind the data of R84 (assumption log 34), a release CLEAR has no posting number
(assumption log 13), what an airing used in REHEARSAL is its airing set (assumption log 27), and the CLEARs at the echo
go by rising channel number (assumption log 11) and are dropped by a full one (assumption log 48). -/
def Obligations.EndShowEndsAiringAndReleases : Prop :=
  ∀ (o : Origin) (program : Byte) (p : ProgId) (s : State), Listening s.toPart → program.toNat = p.val →
    ProgramOk s.toPart p →
    let i := Instr.endShow o program
    let r := s.runner p
    let parks := r.state = .parkPending
    (r.state = .idle ∨ r.state = .parked → Refused i s o 0x33 (Reply.refuse .busy 7 (be1 r.state.code)))
      ∧ (r.state = .running ∨ r.state = .held ∨ parks → ∃ t, exec i s = .next t
          ∧ Replied s.toPart t.toPart o 0x33 (Reply.done (t.runReport p
              ++ be2 (match s.onAirEntry p with | some e => e.tag | none => 0)))
          ∧ LinesFollow s.toPart t.toPart ∧ OthersKept p s.toPart t.toPart
          ∧ KeepsBut [.intake, .lines, .rundowns, .runners, .firings, .airing, .channels, .notices] s t
          ∧ t.rundown p = { s.rundown p with entries := (s.rundown p).entries.map (fun e =>
              if e.state = .onAir then { e with state := .done, actual := some ((s.elapsed p).getD 0) } else e) }
          ∧ t.runner p = { r with
              state := if parks then .parkPending else .idle, held := none, showStart := none
              givenUp := if parks then r.givenUp else true }
          ∧ (∀ c, r.mode = .live → (s.channel c).claim = .held p → (t.channel c).claim = .releasing p
              ∧ (t.channel c).release = some { program := p, action := .clear, param := 0, asset := 0, posting := none
                                               tag := 0, frame := s.clock.frame })
          ∧ (∀ c, (s.channel c).claim ≠ .held p → (t.channel c).claim = (s.channel c).claim
              ∧ (t.channel c).release = (s.channel c).release)
          ∧ t.airingSet p = (if s.onAirEntry p = none then s.airingSet p else [])
          ∧ let u := if s.onAirEntry p = none then s.toPart else s.settleTable p ((s.elapsed p).getD 0)
            AiringLeft p (s.airingSet p) u t.toPart ∧ t.notices = u.notices ∧ t.noticesLost = u.noticesLost)

/-- PARK clears the pin and sends the NEXT entry back to PENDING, and the program is PARKED at once when the park
conditions hold, PARK_PENDING otherwise (R99, R100); the row PARKED makes that test again, on the state as it stands, and
does nothing where the conditions do not hold (the model's choice, assumption log 15); UNPARK leads back to the state of
R101, next selection following. -/
def Obligations.ParkAndUnpark : Prop :=
  ∀ (o : Origin) (program : Byte) (p : ProgId) (s : State), Listening s.toPart → program.toNat = p.val →
    ProgramOk s.toPart p →
    let r := s.runner p
    let parks := r.state = .parkPending ∨ r.state = .parked
    let settled (t : State) : Prop :=
      (t.runner p).showStart = none ∧ (t.firing p).echo = [] ∧ (t.firing p).next.rows = []
        ∧ (t.firing p).onAir.rows = [] ∧ t.airingSet p = [] ∧ ∀ c, ∀ w ∈ (t.channel c).waiting, w.1 ≠ p
    (parks → ∃ t, exec (.park o program) s = .next t ∧ Answers [] s t o 0x34 (Reply.done (s.runReport p)))
      ∧ (¬ parks → ∃ t, exec (.park o program) s = .next t
          ∧ Replied s.toPart t.toPart o 0x34 (Reply.done (t.runReport p)) ∧ LinesFollow s.toPart t.toPart
          ∧ OthersKept p s.toPart t.toPart
          ∧ KeepsBut [.intake, .lines, .rundowns, .runners, .firings, .airing, .channels, .notices] s t
          ∧ t.rundown p = { s.rundown p with entries := (s.rundown p).entries.map (fun e =>
              if e.state = .next then { e with state := .pending } else e) }
          ∧ (t.runner p).pinned = false ∧ (t.runner p).held = r.held ∧ (t.runner p).mode = r.mode
          ∧ (t.runner p).state = (if MayPark t.toPart p then .parked else .parkPending)
          ∧ ((t.runner p).state = .parked → settled t))
      ∧ (r.state = .parkPending → MayPark s.toPart p → ∃ t, exec (.parked p) s = .next t
          ∧ EventKeeps [.runners, .firings, .airing, .channels] s t ∧ OthersKept p s.toPart t.toPart
          ∧ t.runner p = { r with state := .parked, showStart := none } ∧ settled t)
      ∧ (¬ (r.state = .parkPending ∧ MayPark s.toPart p) → ∃ t, exec (.parked p) s = .next t ∧ EventKeeps [] s t)
      ∧ (¬ parks → ∃ t, exec (.unpark o program) s = .next t ∧ Answers [] s t o 0x35 (Reply.done (s.runReport p)))
      ∧ (parks → ∃ t, exec (.unpark o program) s = .next t
          ∧ Replied s.toPart t.toPart o 0x35 (Reply.done (t.runReport p)) ∧ LinesFollow s.toPart t.toPart
          ∧ ListKeeps p s t ∧ t.store = s.store
          ∧ t.rundown p = { s.rundown p with entries := (s.rundown p).reselected }
          ∧ (t.runner p).pinned = false
          ∧ (t.runner p).state = (if s.onAirEntry p = none then .idle else if r.held = none then .running else .held))

/-- BREAK_IN is checked in the order of R95, then creates a BREAKING entry with the lowest free reserved tag right after
the take mark, links its record and pins it as NEXT, any park ended; with take-now it is then taken, from the state that
the same command leaves without it (R96, R101), by the P last handed on (R128, assumption log 7), and with an airing set
in REHEARSAL too (assumption log 27). That the new tag stands behind the data of R84 is the model's reading (assumption
log 34). -/
def Obligations.BreakInPinsAReservedEntry : Prop :=
  ∀ (o : Origin) (program given record now : Byte) (tag : Nat) (p : ProgId) (s : State), Listening s.toPart →
    program.toNat = p.val → ProgramOk s.toPart p →
    let i := Instr.breakIn o program given record now
    let l := s.rundown p
    let r := s.runner p
    let used : Option RecId := if given ≠ 0 then some record.toFin else r.settings.breakIn
    let total := (allPrograms.map (fun q => (s.rundown q).entries.length)).sum
    let full := 128 ≤ l.entries.length
    let empty := 256 ≤ total
    let no (c : ResultCode) (d : Nat) (bs : List Byte) : Prop := Refused i s o 0x36 (Reply.refuse c d bs)
    (used = none → no .notFound 15 [])
      ∧ ∀ x, used = some x →
          (full → no .full 8 [])
            ∧ (¬ full → empty → no .full 9 [])
            ∧ (¬ full → ¬ empty → (s.record x).state = .free → no .notFound 10 (be1 x.val))
            ∧ (¬ full → ¬ empty → (s.record x).state = .opened → no .busy 10 (be1 x.val))
            ∧ (¬ full → ¬ empty → (s.record x).state = .ready → 255 ≤ (s.record x).links → no .full 10 (be1 x.val))
            ∧ ∀ a b, ¬ full → ¬ empty → (s.record x).state = .ready → (s.record x).links < 255 →
                65280 ≤ tag → tag ∉ l.entries.map Entry.tag → (∀ m, 65280 ≤ m → m < tag → m ∈ l.entries.map Entry.tag) →
                SplitsAfter l.entries (l.mark.getD 0) a b →
                let e : Entry := { tag := tag, record := x, state := .next, breaking := true, takeFrame := none
                                   actual := none, airings := 0 }
                let back := fun (y : Entry) => if y.state = .next then { y with state := .pending } else y
                let list : Rundown := { l with entries := a.map back ++ e :: b.map back }
                let linked (t : State) : Prop := ∀ q, t.record q =
                  if q = x then { s.record q with links := (s.record q).links + 1 } else s.record q
                ∃ t, exec i s = .next t ∧ linked t
                  ∧ Replied s.toPart t.toPart o 0x36 (Reply.done (t.runReport p ++ be2 tag))
                  ∧ LinesFollow s.toPart t.toPart ∧ OthersKept p s.toPart t.toPart
                  ∧ (now = 0 → ListKeeps p s t ∧ t.rundown p = list ∧ (t.runner p).pinned = true
                      ∧ (t.runner p).state = (if parking r.state then
                          (if s.onAirEntry p = none then .idle else if r.held = none then .running else .held)
                          else r.state))
                  ∧ (now ≠ 0 → t.rundown p = (s.onRundown p (fun _ => list)).takenList p e id
                      ∧ t.runner p = s.takenRunner p e ∧ ClaimsTaken p e s.toPart t.toPart
                      ∧ ∃ v, exec (.breakIn o program given record 0) s = .next v
                        ∧ TakeMade p e id (match (s.timing p).rows.find? (fun w => w.tag == tag) with
                            | some w => w.p
                            | none => s.planned x) v t)

/-- SET_MODE is accepted in PARKED alone and empties the echo (R103); SET_PROGRAM checks its five settings and keeps
them pending (R104), and they take effect together, by the row as at a frame start (R87). The echo of REHEARSAL advances
at a frame start: ISSUED commands leave and their rows, where the post is in flight, become ACKED, POSTED ones become
ISSUED with their rows and move the echo on-states, the later of two deciding (R141). The model's readings: the
positions of the parameters, W2 above W1 being W2's (assumption log 17), and the row PROGRAM_SETTINGS_TAKE_EFFECT as
that step alone (assumption log 15). -/
def Obligations.ModeAndSettingsAreSet : Prop :=
  (∀ (o : Origin) (program mode priority given record : Byte) (hardOut : Word) (w1 w2 : Half) (p : ProgId) (s : State),
    Listening s.toPart → program.toNat = p.val →
    let r := s.runner p
    let setMode := Instr.setMode o program mode
    let setProgram := Instr.setProgram o program priority hardOut w1 w2 given record
    let no (n : Nat) : Prop := Refused setProgram s o 0x38 (Reply.refuse .range 16 (be1 n))
    let set : Settings :=
      { priority := priority.toNat, hardOut := if hardOut.toNat = 0xFFFFFFFF then none else some hardOut.toNat
        w1 := w1.toNat, w2 := w2.toNat, breakIn := if given ≠ 0 then some record.toFin else none }
    let late := hardOut.toNat ≠ 0xFFFFFFFF ∧ rateDay s.clock.rate ≤ hardOut.toNat
    let bad1 := w1.toNat < 1 ∨ 600 < w1.toNat
    let bad2 := w2.toNat < 1 ∨ 600 < w2.toNat ∨ w1.toNat < w2.toNat
    (1 < mode.toNat → Refused setMode s o 0x37 (Reply.refuse .range 16 (be1 2)))
      ∧ (mode.toNat ≤ 1 → r.state ≠ .parked → Refused setMode s o 0x37 (Reply.refuse .busy 7 (be1 r.state.code)))
      ∧ (mode.toNat ≤ 1 → r.state = .parked → ∃ t, exec setMode s = .next t
          ∧ Answers [.runners, .firings] s t o 0x37 (Reply.done (t.runReport p))
          ∧ (∀ q, q ≠ p → t.runner q = s.runner q ∧ t.firing q = s.firing q)
          ∧ t.runner p = { r with mode := if mode = 0 then .live else .rehearsal }
          ∧ t.firing p = { s.firing p with echo := [], echoOn := (t.firing p).echoOn }
          ∧ ∀ c, (t.firing p).echoOn.at c = false)
      ∧ (3 < priority.toNat → no 2)
      ∧ (priority.toNat ≤ 3 → late → no 3)
      ∧ (priority.toNat ≤ 3 → ¬ late → bad1 → no 4)
      ∧ (priority.toNat ≤ 3 → ¬ late → ¬ bad1 → bad2 → no 5)
      ∧ (priority.toNat ≤ 3 → ¬ late → ¬ bad1 → ¬ bad2 → ∃ t, exec setProgram s = .next t
          ∧ Answers [.runners] s t o 0x38 (Reply.done (t.runReport p)) ∧ (∀ q, q ≠ p → t.runner q = s.runner q)
          ∧ t.runner p = { r with pending := some set })
      ∧ ∃ t, exec (.programSettingsTakeEffect p) s = .next t ∧ EventKeeps [.runners] s t
          ∧ (∀ q, q ≠ p → t.runner q = s.runner q)
          ∧ t.runner p = { r with settings := r.pending.getD r.settings, pending := none })
    ∧ ∀ (p : ProgId) (s : Machine.Part),
        let f := s.firing p
        let t := s.echoAdvance p
        let rising := f.echo.filter (fun k => !k.issued)
        let leaving := f.echo.filter (fun k => k.issued)
        let named (l : List EchoCmd) (r : Row) : Bool := r.posting.isSome && l.any (fun k => k.posting == r.posting)
        let told (r : Row) : Row :=
          if ¬ Flying r then r
          else if named leaving r then { r with outcome := .acked }
          else if named rising r then { r with outcome := .issued } else r
        t = { s with firings := t.firings } ∧ (∀ q, q ≠ p → t.firing q = s.firing q)
          ∧ t.firing p = { f with
              echo := rising.map (fun k => { k with issued := true }), echoOn := (t.firing p).echoOn
              next := { f.next with rows := f.next.rows.map told }, onAir := { f.onAir with rows := f.onAir.rows.map told } }
          ∧ ∀ c, (t.firing p).echoOn.at c =
              (match (rising.filter (fun k => k.channel == c && (k.action.isOn || k.action.isOff))).getLast? with
               | some k => k.action.isOn
               | none => f.echoOn.at c)

/-- PROGRAM_RESET empties the program's list with its links, tables, echo and airing set, purges its commands, claims,
waits and on-states from every channel, and returns its record to the reset values but for its settings and mode; a
claim of the program passes at once, its release CLEAR and return request gone, and, with true link counts, which every
command keeps (O58), to the arbiter's choice among the other programs that wait (R154, R163); the other programs are
untouched (R105, R106, R123, R143). That the number of entries removed stands behind the data of R84 (assumption log
34), and the thresholds in frames then (assumption log 23), are the model's readings. -/
def Obligations.ProgramResetClearsOneProgram : Prop :=
  ∀ (o : Origin) (program : Byte) (p : ProgId) (s : State), Listening s.toPart → program.toNat = p.val →
    let l := (s.rundown p).entries
    ∃ t, exec (.programReset o program) s = .next t
      ∧ Replied s.toPart t.toPart o 0x39 (Reply.done (t.runReport p ++ be1 l.length))
      ∧ LinesFollow s.toPart t.toPart ∧ OthersKept p s.toPart t.toPart
      ∧ KeepsBut [.intake, .lines, .store, .rundowns, .runners, .firings, .airing, .timings, .channels] s t
      ∧ t.rundown p = { entries := [], mark := none }
      ∧ (∀ r, t.record r = (s.record r).without ((l.filter (fun e => e.record == r)).length))
      ∧ t.runner p = { Runner.reset with
          settings := (s.runner p).settings, mode := (s.runner p).mode, pending := (s.runner p).pending }
      ∧ (t.firing p).next.rows = [] ∧ (t.firing p).onAir.rows = [] ∧ (t.firing p).echo = []
      ∧ (∀ c, (t.firing p).echoOn.at c = false) ∧ t.airingSet p = []
      ∧ TimingEmpty (t.timing p) (secondsToFrames s.clock.rate 30) (secondsToFrames s.clock.rate 10)
      ∧ (∀ q, q ≠ p → t.firing q = s.firing q ∧ t.timing q = s.timing q)
      ∧ ∀ c, let mine := (s.channel c).claim.program = some p
        let left := (s.channel c).waiting.filter (fun w => w.1 != p && s.needs w.1 c)
        (t.channel c).claim.program ≠ some p
          ∧ (t.channel c).queue = (s.channel c).queue.filter (fun k => k.program != p)
          ∧ (∀ w ∈ (t.channel c).waiting, w.1 ≠ p)
          ∧ (∀ q, (t.channel c).onStates.at q = (q != p && (s.channel c).onStates.at q))
          ∧ (mine → (t.channel c).release = none ∧ (t.channel c).returnReq = none)
          ∧ (mine → LinksOk s.toPart → Granted s.toPart left (t.channel c).claim
              ∧ (t.channel c).waiting = left.filter (fun w => (t.channel c).claim.program != some w.1))
          ∧ (¬ mine → (t.channel c).claim = (s.channel c).claim ∧ (t.channel c).release = (s.channel c).release
              ∧ (t.channel c).returnReq = (s.channel c).returnReq
              ∧ (t.channel c).waiting = (s.channel c).waiting.filter (fun w => w.1 != p))
          ∧ (t.channel c).current.serial = (s.channel c).current.serial
          ∧ (t.channel c).current.standing = (s.channel c).current.standing

/-- FIRE is checked in the order of R133 and posts the row at once, through the gate of R137; a due row of the ON_AIR
table goes out the same way (R129), and a held ROLL is posted when its channel is ready or given up when its count has
reached the grace (R137). The model's readings: the last three rows do nothing where their event has not come about
(assumption log 15), FIRE's data carries the held flag in a byte behind the outcome (assumption log 32), a row held for
READY shows the posting number of its latest post (assumption log 30), and one whose channel has taken another kind than
CLIP is posted (assumption log 49). -/
def Obligations.RowsArePostedThroughTheGate : Prop :=
  ∀ (o : Origin) (program index : Byte) (p : ProgId) (k : TableKind) (i : Fin 16) (s : State), Listening s.toPart →
    program.toNat = p.val →
    let fire := Instr.fire o program index
    let rows := (s.firing p).onAir.rows
    let due (r : Row) : Bool :=
      (r.anchor == .fromTake || r.anchor == .fromEnd) && r.outcome == .waiting
        && r.due.any (fun d => decide (d ≤ (s.elapsed p).getD 0)) && (s.onAirEntry p).isSome
        && ((s.runner p).state == .running || ((s.runner p).state == .parkPending && (s.runner p).held.isNone))
    (15 < index.toNat → Refused fire s o 0x3A (Reply.refuse .range 16 (be1 2)))
      ∧ (index.toNat ≤ 15 → s.onAirEntry p = none → Refused fire s o 0x3A (Reply.refuse .notFound 14 []))
      ∧ (index.toNat ≤ 15 → s.onAirEntry p ≠ none → rows.length ≤ index.toNat →
          Refused fire s o 0x3A (Reply.refuse .notFound 18 []))
      ∧ (∀ r, index.toNat ≤ 15 → s.onAirEntry p ≠ none → rows[index.toNat]? = some r →
          let firable := if r.anchor = .manual then r.held = none else (r.outcome = .waiting ∨ r.outcome = .skipped)
          (¬ firable → Refused fire s o 0x3A (Reply.refuse .busy 19 (be1 r.outcome.code)))
            ∧ (firable → ∃ t, exec fire s = .next t ∧ RowFired p .onAir index.toNat r s t
                ∧ LinesFollow s.toPart t.toPart ∧ KeepsBut [.intake, .lines, .firings, .channels, .notices] s t
                ∧ ∀ after, (t.firing p).onAir.rows[index.toNat]? = some after → Replied s.toPart t.toPart o 0x3A
                    (Reply.done (be1 after.outcome.code ++ beFlag after.held.isSome))))
      ∧ (∀ r, rows[i.val]? = some r → due r = true → ∃ t, exec (.eventDuePost p i) s = .next t
          ∧ RowFired p .onAir i.val r s t ∧ EventKeeps [.firings, .channels, .notices] s t)
      ∧ ((∀ r, rows[i.val]? = some r → due r = false) →
          ∃ t, exec (.eventDuePost p i) s = .next t ∧ EventKeeps [] s t)
      ∧ ∀ r, ((s.firing p).table k).rows[i.val]? = some r →
          (r.held.isSome = true → ¬ GateShut s.toPart p r → ∃ t, exec (.rollPostedOnReady p k i) s = .next t
              ∧ RowPosted p k i.val r s t ∧ EventKeeps [.firings, .channels, .notices] s t)
            ∧ ((r.held = none ∨ GateShut s.toPart p r) →
                ∃ t, exec (.rollPostedOnReady p k i) s = .next t ∧ EventKeeps [] s t)
            ∧ (∀ n, r.held = some n → GateShut s.toPart p r → graceOf s.toPart r ≤ n →
                ∃ t, exec (.notReady p k i) s = .next t ∧ RowGivenUp p k i.val r s t
                  ∧ EventKeeps [.firings, .notices] s t)
            ∧ (∀ n, r.held = some n → ¬ (GateShut s.toPart p r ∧ graceOf s.toPart r ≤ n) →
                ∃ t, exec (.notReady p k i) s = .next t ∧ EventKeeps [] s t)

/-- When the automatic-end test of R91 is true the NEXT entry is taken as by a TAKE; with none, the airing ends, its
table is settled (R132; O36), a RUNNING program becomes IDLE and RUNDOWN_END is raised, and the channels held are
released, or in REHEARSAL cleared at the echo (R81, R92, R140, R153). Otherwise nothing happens. The take is one of a
frame start, so the FROM_END rows of the new airing are due by the P of that frame start (R121). That the row
AUTOMATIC_END makes the test alone, on the state as it stands (assumption log 15), the airing set in REHEARSAL too
(assumption log 27), and the order and the fate at a full echo of its CLEARs (assumption logs 11, 13 and 48), are the
model's. -/
def Obligations.AutomaticEndTakesOrEnds : Prop :=
  ∀ (p : ProgId) (s : State), s.active = true → ProgramOk s.toPart p →
    let i := Instr.automaticEnd p
    (∀ e n, s.onAirEntry p = some e → EndDue s.toPart p e = true → s.nextEntry p = some n →
        ∃ t, exec i s = .next t ∧ TakeMade p n id (s.planned n.record) s t ∧ LinesFollow s.toPart t.toPart ∧ t.intake = s.intake)
      ∧ (∀ e, s.onAirEntry p = some e → EndDue s.toPart p e = true → s.nextEntry p = none →
          ∃ t, exec i s = .next t ∧ LinesFollow s.toPart t.toPart ∧ OthersKept p s.toPart t.toPart
            ∧ KeepsBut [.lines, .rundowns, .runners, .firings, .airing, .channels, .notices] s t
            ∧ t.airingSet p = []
            ∧ t.rundown p = s.selection p { s.rundown p with entries := (s.rundown p).entries.map (fun x =>
                if x.tag = e.tag then { x with state := .done, actual := some ((s.elapsed p).getD 0) } else x) }
            ∧ (t.runner p).state = (if (s.runner p).state = .running then .idle else .parkPending)
            ∧ (t.runner p).held = none ∧ (t.runner p).showStart = (s.runner p).showStart
            ∧ (t.nextEntry p = none → AiringLeft p (s.airingSet p)
                ((s.reckonRows p (s.planned e.record)).settleTable p ((s.elapsed p).getD 0)) t.toPart)
            ∧ ((s.runner p).state = .running →
                (∃ m ∈ t.notices, m.kind = .rundownEnd ∧ m.subject = { program := some p, tag := some e.tag })
                  ∨ 32 ≤ t.notices.length))
      ∧ ((∀ e, s.onAirEntry p = some e → EndDue s.toPart p e = false) →
          ∃ t, exec i s = .next t ∧ EventKeeps [] s t)

/-- A reached hard start takes the last entry in list order that waits for one: the PENDING entries between the take mark
and it are DROPPED, an entry displaced from NEXT among them, with HARD_START_DROP in a notice queue that is not full
(R93); every other reached hard start but the ON_AIR entry's is missed, with its notice (R94). The take is one of a frame
start, so the FROM_END rows are due by the P of that frame start (R121). That the rows HARD_START_TAKE and HARD_START_MISSED
are steps alone, and do nothing otherwise (assumption log 15), and the airing set in REHEARSAL too (assumption log 27), are
the model's. -/
def Obligations.HardStartsTakeOrAreMissed : Prop :=
  ∀ (p : ProgId) (tag : Half) (s : State), s.active = true → ProgramOk s.toPart p →
    let l := s.rundown p
    let missed (e : Entry) : Bool :=
      HardReached s.toPart e && e.state != .onAir && (HardTarget s.toPart p).map Entry.tag != some e.tag
    (∀ n, HardTarget s.toPart p = some n →
        let passed := if n ∈ l.afterMark then l.afterMark.takeWhile (fun x => x.tag != n.tag) else []
        ∃ t, exec (.hardStartTake p) s = .next t ∧ LinesFollow s.toPart t.toPart ∧ t.intake = s.intake
          ∧ TakeMade p n (fun x => if x.waits = true ∧ x ∈ passed then { x with state := .dropped } else x)
              (s.planned n.record) s t
          ∧ ((∃ x ∈ passed, x.waits = true) →
              (∃ m ∈ t.notices, m.kind = .hardStartDrop ∧ m.subject = { program := some p })
                ∨ 32 ≤ t.notices.length))
      ∧ (HardTarget s.toPart p = none → ∃ t, exec (.hardStartTake p) s = .next t ∧ EventKeeps [] s t)
      ∧ (∀ e ∈ l.entries, e.tag = tag.toNat → missed e = true →
          ∃ t, exec (.hardStartMissed p tag) s = .next t ∧ EventKeeps [.notices] s t
            ∧ Raises .hardStartMissed { program := some p, tag := some e.tag } s.toPart t.toPart)
      ∧ ((∀ e ∈ l.entries, e.tag = tag.toNat → missed e = false) →
          ∃ t, exec (.hardStartMissed p tag) s = .next t ∧ EventKeeps [] s t)

/-! ### Timing, presenters, channels and lines -/

/-- The timing results of a program: P by the first case of R109 that applies, the remaining time from the report of a
running timing channel or else from P (R91, R111), the projected end, front times and backtimes from held sums (R114, R116,
R117, R119), the over/unders to the hard-out and to the first anchor entry within half a day (R115, R118), the SATURATED flag,
set when the sum to the end, the longest of them all, is held (R119), and the wrap stage (R120). At a frame start the
results are put in place, and an onset of SATURATED raises its notice (R112, R119). -/
def Obligations.TimingResultsAreReckoned : Prop :=
  ∀ (p : ProgId) (s : Machine.Part), s.clock.day < rateDay s.clock.rate →
    let t := s.reckon p
    let r := s.clock.rate
    let d := rateDay r
    let held (n : Nat) : Nat := min n (d / 2 - 1)
    let set := s.pendingSet p
    let sum := fun (l : List Entry) => (l.map (fun e => s.planned e.record)).sum
    let left := (t.rem.getD 0).toNat
    let anchor (e : Entry) : Option Nat := (s.record e.record).hardStart?.filter (fun x => decide (x < d))
    let show? := (s.runner p).settings.hardOut.filter (fun x => decide (x < d))
    let free (j k : Nat) : Prop := ∀ (m : Nat) e, j ≤ m → m < k → set[m]? = some e → anchor e = none
    let seen (e : Entry) (c : ChanId) : Prop := (s.record e.record).timing? = some c ∧ (s.runner p).mode = .live
      ∧ (s.channel c).health = .online ∧ ((s.channel c).claim = .held p ∨ (s.channel c).shareable = true)
    let byPlan (e : Entry) : Int :=
      max ((s.planned e.record : Int) - ((s.elapsed p).getD 0 : Nat)) (-((d / 2 - 1 : Nat) : Int))
    let u := s.timingFrameStart p
    let onset := t.saturated = true ∧ (s.timing p).saturated = false
    (∀ x, let y := s.record x
        s.planned x = min (pMax r)
          (if y.planned ≠ 0 then y.planned
           else match presOf y.presenterNo with
             | some k =>
               let q := (s.presenter k).settings.readRate * rateDen r
               (y.words * 8 * rateNum r + q - 1) / q + y.pad
             | none => y.pad))
      ∧ (s.onAirEntry p = none → t.p = none ∧ t.rem = none ∧ t.stage = .none)
      ∧ (∀ e, s.onAirEntry p = some e → t.p = some (s.planned e.record)
          ∧ (∀ c rep n, seen e c → (s.channel c).report = some rep → rep.status = .running → rep.remaining = some n →
              t.rem = some ((min n (pMax r) : Nat) : Int))
          ∧ ((∀ c rep n, seen e c → (s.channel c).report = some rep → rep.status = .running → rep.remaining ≠ some n) →
              t.rem = some (byPlan e))
          ∧ ∀ m, t.rem = some m → t.stage =
              (if (s.record e.record).presenterNo = 0 ∨ (s.record e.record).noWrap = true then .none
               else if m > t.w1 then .steady else if m > t.w2 then .slow else .fast))
      ∧ t.e = (s.clock.day + held (left + sum set)) % d
      ∧ t.rows.map PendingRow.tag = set.map Entry.tag
      ∧ (∀ k, k < set.length → (t.rows[k]?).map PendingRow.front = some ((s.clock.day + held (left + sum (set.take k))) % d)
          ∧ (t.rows[k]?).map PendingRow.p = (set[k]?).map (fun e => s.planned e.record))
      ∧ (∀ (k j : Nat) e a, k ≤ j → set[j]? = some e → anchor e = some a → free k j →
          (t.rows[k]?).map PendingRow.back = some (some ((a + d - held (sum ((set.take j).drop k))) % d)))
      ∧ (∀ k, k < set.length → free k set.length → (t.rows[k]?).map PendingRow.back =
          some (show?.map (fun h => (h + d - held (sum (set.drop k))) % d)))
      ∧ (∀ h, show? = some h → ∃ x, t.oShow = some x
          ∧ (x - ((t.e : Int) - h)) % (d : Int) = 0 ∧ -(d : Int) < 2 * x ∧ 2 * x ≤ d)
      ∧ (show? = none → t.oShow = none)
      ∧ (∀ (j : Nat) e a w, set[j]? = some e → anchor e = some a → free 0 j → t.rows[j]? = some w →
          ∃ x, t.oNext = some (x, e.tag) ∧ (x - ((w.front : Int) - a)) % (d : Int) = 0 ∧ -(d : Int) < 2 * x ∧ 2 * x ≤ d)
      ∧ (free 0 set.length → t.oNext = none)
      ∧ t.saturated = decide (d / 2 - 1 < left + sum set)
      ∧ u.timing p = t ∧ (∀ q, q ≠ p → u.timing q = s.timing q)
      ∧ u = { s with timings := u.timings, notices := u.notices, noticesLost := u.noticesLost }
      ∧ (onset → Raises .timingSaturated { program := some p } s u)
      ∧ (¬ onset → u.notices = s.notices ∧ u.noticesLost = s.noticesLost)
      ∧ t.w1 = secondsToFrames r (s.runner p).settings.w1 ∧ t.w2 = secondsToFrames r (s.runner p).settings.w2

/-- SET_PRESENTER is checked in the order of R107 against the lines the other presenters will have at the next frame
start, and its settings wait for that; they take effect together, by the row as at a frame start. At step 4 of a frame
start a presenter's cue pattern is that of the most urgent stage among its deciding contributors, a flash phase runs on
under the same pattern and begins again under another or at a new rate, and a conflict that begins raises its notice
(R170, R171); CUE lines show the phase by the half-periods of the rate (R171), STANDBY lines whether the presenter is due
to read next (R172). The model's readings: the positions of the parameters (assumption log 17), no data for two equal
lines (assumption log 36), and the row PRESENTER_SETTINGS_TAKE_EFFECT as that step alone (assumption log 15). -/
def Obligations.PresentersAreCheckedThenPending : Prop :=
  (∀ (o : Origin) (presenter rate cue standby : Byte) (s : State), Listening s.toPart →
    let i := Instr.setPresenter o presenter rate cue standby
    let no (n : Nat) : Prop := Refused i s o 0x40 (Reply.refuse .range 16 (be1 n))
    let bad1 := presenter.toNat = 0 ∨ 16 < presenter.toNat
    let bad2 := rate.toNat < 8 ∨ 64 < rate.toNat
    let bad3 := 32 < cue.toNat
    let bad4 := 32 < standby.toNat
    let twice := cue ≠ 0 ∧ cue = standby
    let takes (m : PresId) (line : Byte) : Prop :=
      let c := (s.presenter m).pending.getD (s.presenter m).settings
      line ≠ 0 ∧ m.val + 1 ≠ presenter.toNat ∧ (c.cue = line.toNat ∨ c.standby = line.toNat)
    (bad1 → no 1) ∧ (¬ bad1 → bad2 → no 2) ∧ (¬ bad1 → ¬ bad2 → bad3 → no 3)
      ∧ (¬ bad1 → ¬ bad2 → ¬ bad3 → bad4 → no 4)
      ∧ (¬ bad1 → ¬ bad2 → ¬ bad3 → ¬ bad4 → twice → Refused i s o 0x40 (Reply.refuse .range 17 []))
      ∧ (¬ bad1 → ¬ bad2 → ¬ bad3 → ¬ bad4 → ¬ twice → (∃ m, takes m cue ∨ takes m standby) →
          ∃ m, (takes m cue ∨ takes m standby) ∧ Refused i s o 0x40 (Reply.refuse .range 17 (be1 (m.val + 1))))
      ∧ (∀ k : PresId, k.val + 1 = presenter.toNat → ¬ bad2 → ¬ bad3 → ¬ bad4 → ¬ twice →
          (∀ m, ¬ takes m cue ∧ ¬ takes m standby) → ∃ t, exec i s = .next t
            ∧ Answers [.presenters] s t o 0x40 (Reply.done []) ∧ (∀ m, m ≠ k → t.presenter m = s.presenter m)
            ∧ t.presenter k = { s.presenter k with
                pending := some { readRate := rate.toNat, cue := cue.toNat, standby := standby.toNat } })
      ∧ ∃ t, exec .presenterSettingsTakeEffect s = .next t ∧ EventKeeps [.presenters] s t
          ∧ ∀ m, t.presenter m = { s.presenter m with
              settings := (s.presenter m).pending.getD (s.presenter m).settings, pending := none })
    ∧ ∀ (k : PresId) (ln : Line) (s : Machine.Part),
        let reads (e : Option Entry) : Bool := e.any (fun e => (s.record e.record).presenterNo == k.val + 1)
        let stage (p : ProgId) : WrapStage := (s.timing p).stage
        let contributes (p : ProgId) : Bool :=
          (s.runner p).state != .parked && reads (s.onAirEntry p) && stage p != .none
        let someLive := allPrograms.any (fun p => contributes p && (s.runner p).mode == .live)
        let decides (p : ProgId) : Bool := contributes p && ((s.runner p).mode == .live || !someLive)
        let gives (w : WrapStage) : Bool := allPrograms.any (fun p => decides p && stage p == w)
        let pattern : Pattern := if gives .fast then .fast else if gives .slow then .slow
          else if gives .steady then .lit else .dark
        let conflict := (gives .fast && gives .slow) || (gives .fast && gives .steady) || (gives .slow && gives .steady)
        let least : WrapStage := if gives .steady then .steady else .slow
        let x := s.presenter k
        let t := s.presenterStep k
        let begins := conflict = true ∧ x.conflict = false
        let standsBy (p : ProgId) : Bool :=
          (s.runner p).state != .parked && reads (s.nextEntry p) && (s.onAirEntry p).isSome
            && (s.timing p).rem.any (fun n => decide (n ≤ ((s.timing p).w2 : Int)))
        let half (slow : Bool) : Nat := match s.clock.rate with
          | .r25 => if slow then 12 else 4
          | .r30df | .r30 => if slow then 15 else 5
          | .r50 => if slow then 25 else 8
          | .r60df | .r60 => if slow then 30 else 10
        (∀ m, m ≠ k → t.presenter m = s.presenter m)
          ∧ t.presenter k = { x with
              pattern := pattern, conflict := conflict
              count := if x.pattern = pattern ∧ s.clock.rateStart = false then x.count + 1 else 0 }
          ∧ (¬ begins → t = { s with presenters := t.presenters })
          ∧ (∀ (p : ProgId) (l : LineId), begins → decides p = true → stage p = least →
              (∀ q, q < p → ¬ (decides q = true ∧ stage q = least)) →
              (s.line l).fn = .cue k → (∀ m, m < l → (s.line m).fn ≠ .cue k) →
              Raises .presenterConflict { program := some p, line := some (l.val + 1) } s t)
          ∧ (begins → (∀ l, (s.line l).fn ≠ .cue k) → t.notices = s.notices ∧ t.noticesLost = s.noticesLost)
          ∧ (ln.fn = .cue k → s.requestedLevel ln = some (match x.pattern with
              | .dark => false
              | .lit => true
              | .slow => x.count / half true % 2 == 0
              | .fast => x.count / half false % 2 == 0))
          ∧ (ln.fn = .standby k → (s.lampRequest ln).requested = some
              (allPrograms.any (fun p => (s.runner p).mode == .live && standsBy p)
                || (!allPrograms.any (fun p => (s.runner p).mode == .live && reads (s.nextEntry p))
                    && allPrograms.any (fun p => (s.runner p).mode == .rehearsal && standsBy p))))

/-- CONFIGURE_CHANNEL is checked in the order of R145 and its configuration waits for the next frame start; there a
window change replaces the three windows alone, and a full change of an idle channel, or the first configuration of an
UNCONFIGURED one, brings the consequences of R146. The model's readings: the positions of the parameters (assumption
log 17), the row CHANNEL_CONFIGURATION_TAKES_EFFECT as that step alone (assumption log 15), the ack count then 0
(assumption log 45), and an accepted configuration in place of a slot that RESET_NODE has kept pending (assumption
log 44). -/
def Obligations.ChannelsAreConfigured : Prop :=
  ∀ (o : Origin) (channel kind slot node share ack grace stale : Byte) (c : ChanId) (s : State), Listening s.toPart →
    let i := Instr.configureChannel o channel kind slot node share ack grace stale
    let no (n : Nat) : Prop := Refused i s o 0x48 (Reply.refuse .range 16 (be1 n))
    let ok1 := 1 ≤ channel.toNat ∧ channel.toNat ≤ 24
    let ok2 := kind.toNat ≤ 5
    let ok3 := slot.toNat ≤ 47
    let ok4 := 1 ≤ node.toNat ∧ node.toNat ≤ 62 ∧ node.toNat ≠ s.port.node
    let ok5 := share.toNat ≤ 1
    let ok6 := 1 ≤ ack.toNat ∧ ack.toNat ≤ 50
    let ok7 := grace.toNat ≤ 250
    let ok8 := 1 ≤ stale.toNat ∧ stale.toNat ≤ 250
    let ok := ok1 ∧ ok2 ∧ ok3 ∧ ok4 ∧ ok5 ∧ ok6 ∧ ok7 ∧ ok8
    let mine := c.val + 1 = channel.toNat
    let ofPort (m : SlotSet) : Prop := m.status = slot.toNat ∨ slot.toNat ∈ m.replies
    let clash := slot ≠ 0 ∧ (ofPort s.port.slots ∨ (∃ m ∈ s.port.pendingSlots, ofPort m)
      ∨ ∃ e, e ≠ c ∧ ((s.channel e).slot = slot.toNat ∨ (s.channel e).pending.map ChanConfig.slot = some slot.toNat
          ∨ (s.channel e).keptNext = some slot.toNat))
    let full (g : ChanConfig) : Prop :=
      g.kind.code ≠ kind.toNat ∨ g.slot ≠ slot.toNat ∨ g.node ≠ node.toNat ∨ g.shareable ≠ (share.toNat == 1)
    let ch := s.channel c
    let idle := ch.claim = .free ∧ ch.waiting = [] ∧ ch.queue = [] ∧ ch.release = none
      ∧ ch.current.standing ≠ .awaiting ∧ ∀ p, ch.onStates.at p = false
    let busy := ∃ g ∈ ch.config, full g ∧ ¬ idle
    (¬ ok1 → no 1) ∧ (ok1 → ¬ ok2 → no 2) ∧ (ok1 → ok2 → ¬ ok3 → no 3) ∧ (ok1 → ok2 → ok3 → ¬ ok4 → no 4)
      ∧ (ok1 → ok2 → ok3 → ok4 → ¬ ok5 → no 5) ∧ (ok1 → ok2 → ok3 → ok4 → ok5 → ¬ ok6 → no 6)
      ∧ (ok1 → ok2 → ok3 → ok4 → ok5 → ok6 → ¬ ok7 → no 7)
      ∧ (ok1 → ok2 → ok3 → ok4 → ok5 → ok6 → ok7 → ¬ ok8 → no 8)
      ∧ (ok → mine → clash → Refused i s o 0x48 (Reply.refuse .range 20 [slot]))
      ∧ (ok → mine → ¬ clash → busy → Refused i s o 0x48 (Reply.refuse .busy 21 []))
      ∧ (ok → mine → ¬ clash → ¬ busy → ∃ t, exec i s = .next t ∧ Answers [.channels] s t o 0x48 (Reply.done [])
          ∧ (∀ e, e ≠ c → t.channel e = s.channel e)
          ∧ ∃ k ∈ [ChanKind.clip, .graphic, .audio, .prompter, .router, .general], k.code = kind.toNat
            ∧ let n : ChanConfig :=
                { kind := k, slot := slot.toNat, node := node.toNat, shareable := share.toNat == 1
                  ackWindow := ack.toNat, rollGrace := grace.toNat, staleLimit := stale.toNat }
              t.channel c = { ch with keptNext := none, pending := some n })
      ∧ ∃ t, exec (.channelConfigurationTakesEffect c) s = .next t ∧ EventKeeps [.channels] s t
          ∧ (∀ e, e ≠ c → t.channel e = s.channel e) ∧ (t.channel c).pending = none
          ∧ (ch.pending = none → t.channel c = ch)
          ∧ ∀ n, ch.pending = some n →
              (∀ g, ch.config = some g → fullChange g n = false →
                  let w := { g with ackWindow := n.ackWindow, rollGrace := n.rollGrace, staleLimit := n.staleLimit }
                  t.channel c = { ch with pending := none, config := some w })
                ∧ (∀ g, ch.config = some g → fullChange g n = true → ¬ idle → t.channel c = { ch with pending := none })
                ∧ ((ch.config = none ∨ ∃ g ∈ ch.config, fullChange g n = true ∧ idle) →
                    (t.channel c).config = some n ∧ (t.channel c).health = .silent ∧ (t.channel c).silence = 0
                      ∧ (t.channel c).report = none ∧ (t.channel c).current = Current.rest
                      ∧ (t.channel c).ackCount = 0 ∧ (t.channel c).replied = ch.replied
                      ∧ (t.channel c).queue = ch.queue
                      ∧ (n.shareable = true → (t.channel c).claim = .free ∧ (t.channel c).waiting = []
                          ∧ (t.channel c).release = none)
                      ∧ (n.shareable = false → (t.channel c).claim = ch.claim ∧ (t.channel c).waiting = ch.waiting
                          ∧ (t.channel c).release = ch.release))

/-- A channel issues in a LOCKED frame that its frame start began as one, while it is configured, ONLINE, with a slot,
and its current command settled: the queue head, or with an empty queue the release CLEAR, becomes the current command
with the next serial and awaits its acknowledgement, and the row that posted it becomes ISSUED, its post still in flight
(R126, R127, R133, R158). Otherwise nothing is issued, as in a frame made LOCKED by a marker agreeing with it (R158).
That the row COMMAND_ISSUE is that step alone, on the state as it stands, at most once in a frame, is the model's choice
(assumption log 15), and so is that a frame is known by its 32-bit count (assumption log 51). -/
def Obligations.ChannelsIssueInLockedFrames : Prop :=
  ∀ (c : ChanId) (s : State), s.active = true →
    let ch := s.channel c
    let may := s.port.lockedFrame = true ∧ s.port.beganLocked = true ∧ ch.config ≠ none ∧ ch.health = .online ∧ ch.slot ≠ 0
      ∧ ch.current.standing ≠ .awaiting ∧ ch.current.issueFrame ≠ some s.clock.frame
    let current (k : QCommand) (release : Bool) : Current :=
      { serial := (ch.current.serial + 1) % 256, program := some k.program, action := k.action, param := k.param
        asset := k.asset, posting := k.posting, tag := k.tag, issueFrame := some s.clock.frame, standing := .awaiting
        isRelease := release, carried := false, setOn := false, voided := false }
    let i := Instr.commandIssue c
    (∀ k rest, may → ch.queue = k :: rest → ∃ t, exec i s = .next t ∧ EventKeeps [.channels, .firings] s t
        ∧ (∀ e, e ≠ c → t.channel e = s.channel e)
        ∧ t.channel c = { ch with queue := rest, current := current k false, ackCount := 0 }
        ∧ (∀ q, q ≠ k.program → t.firing q = s.firing q)
        ∧ (k.posting = none → t.firings = s.firings)
        ∧ ∀ m, k.posting = some m → RowsTold k.program m .issued s.toPart t.toPart)
      ∧ (∀ k, may → ch.queue = [] → ch.release = some k → ∃ t, exec i s = .next t ∧ EventKeeps [.channels] s t
          ∧ (∀ e, e ≠ c → t.channel e = s.channel e)
          ∧ t.channel c = { ch with release := none, current := current k true, ackCount := 0 })
      ∧ ((¬ may ∨ (ch.queue = [] ∧ ch.release = none)) → ∃ t, exec i s = .next t ∧ EventKeeps [] s t)

/-- The rows by which a channel settles: an overdue command becomes NO_ACK, clears the on-state it set and tells its row
(R159, R162); stale commands leave the queue and the release place, each with its outcome, in rows whose post is in
flight (R127, R133), and its notice unless the queue is full (R160); a channel silent for 25 LOCKED frames becomes
SILENT (R149); a RELEASING claim whose CLEAR is settled, by NO_ACK and STALE as well, passes to the arbiter's choice,
and its on-state goes (R154). The model's readings: the rows are steps alone with their guards, the silence count
standing at 25 (assumption logs 15 and 19), a command is overdue with its count at the window, however it came there
(assumption log 50), and a command voided by PROGRAM_RESET still raises NO_ACK (assumption log 41). -/
def Obligations.ChannelsSettle : Prop :=
  ∀ (c : ChanId) (s : State), s.active = true →
    let ch := s.channel c
    let k := ch.current
    let others (t : State) : Prop := ∀ e, e ≠ c → t.channel e = s.channel e
    (∀ g p, ch.config = some g → k.standing = .awaiting → g.ackWindow ≤ ch.ackCount → k.program = some p →
        ∃ t, exec (.noAck c) s = .next t ∧ others t ∧ EventKeeps [.channels, .firings, .notices] s t
          ∧ (t.channel c).current = { k with standing := .noAck } ∧ (t.channel c).queue = ch.queue
          ∧ (k.setOn = true → (t.channel c).onStates.at p = false)
          ∧ (k.isRelease = false → (t.channel c).claim = ch.claim ∧ (t.channel c).waiting = ch.waiting)
          ∧ (∀ q, k.isRelease = true → ch.claim = .releasing q → ch.release = none →
              ClaimPassed q c s.toPart t.toPart)
          ∧ (k.voided = false → ∀ m, k.posting = some m → RowsTold p m .noAck s.toPart t.toPart)
          ∧ (k.voided = true ∨ k.posting = none → t.firings = s.firings)
          ∧ Raises .noAck (cueSubject p k.tag c) s.toPart t.toPart)
      ∧ ((∀ g ∈ ch.config, k.standing ≠ .awaiting ∨ ch.ackCount < g.ackWindow) →
          ∃ t, exec (.noAck c) s = .next t ∧ EventKeeps [] s t)
      ∧ (∀ g, ch.config = some g →
          let fresh (q : QCommand) : Bool := decide (since s.clock.frame q.frame ≤ g.staleLimit)
          ∃ t, exec (.stale c) s = .next t ∧ others t ∧ EventKeeps [.channels, .firings, .notices] s t
            ∧ (t.channel c).queue = ch.queue.filter fresh ∧ (t.channel c).current = k
            ∧ ((∀ q ∈ ch.release, fresh q = true) → t.channel c = { ch with queue := ch.queue.filter fresh })
            ∧ (∀ q ∈ ch.release, fresh q = false → (t.channel c).release = none
                ∧ ∀ v, ch.claim = .releasing v → ¬ (k.isRelease = true ∧ k.standing = .awaiting) →
                    ClaimPassed v c s.toPart t.toPart)
            ∧ (∀ q, (q ∈ ch.queue ∨ q ∈ ch.release) → fresh q = false →
                (∃ m ∈ t.notices, m.kind = .stale ∧ m.subject = cueSubject q.program q.tag c) ∨ 32 ≤ t.notices.length)
            ∧ (let old := (ch.queue ++ ch.release.toList).filter (fun q => !fresh q)
               ∀ p tb, ((t.firing p).table tb).rows = ((s.firing p).table tb).rows.map (fun r =>
                 if Flying r ∧ (∃ q ∈ old, q.program = p ∧ q.posting ≠ none ∧ q.posting = r.posting) then
                   { r with outcome := .stale }
                 else r))
            ∧ (ch.queue.all fresh = true → (∀ q ∈ ch.release, fresh q = true) → t.toPart = s.toPart.settleLines))
      ∧ (ch.config ≠ none → ch.health = .online → ch.silence = 25 → ∃ t, exec (.channelSilent c) s = .next t
          ∧ others t ∧ EventKeeps [.channels, .notices] s t ∧ t.channel c = { ch with health := .silent }
          ∧ Raises .channelSilent { channel := some (c.val + 1) } s.toPart t.toPart)
      ∧ (¬ (ch.config ≠ none ∧ ch.health = .online ∧ ch.silence = 25) →
          ∃ t, exec (.channelSilent c) s = .next t ∧ EventKeeps [] s t)
      ∧ (∀ p, ch.claim = .releasing p → ch.release = none → ¬ (k.isRelease = true ∧ k.standing = .awaiting) →
          ∃ t, exec (.claimPass c) s = .next t ∧ others t ∧ EventKeeps [.channels] s t
            ∧ ClaimPassed p c s.toPart t.toPart ∧ (t.channel c).current = k ∧ (t.channel c).queue = ch.queue
            ∧ (∀ q, q ≠ p → (t.channel c).onStates.at q = ch.onStates.at q))
      ∧ ((∀ p, ch.claim ≠ .releasing p) ∨ ch.release ≠ none ∨ (k.isRelease = true ∧ k.standing = .awaiting) →
          ∃ t, exec (.claimPass c) s = .next t ∧ EventKeeps [] s t)

/-- A claim request on a non-shareable channel, and a release request, are decided as R151, R152 and R153 give; a
preemption needs a higher priority and a holder that does not use the channel on air, and the commands it removes from
the queue are PREEMPTED in their rows, with one notice (R126, R127, R152). That the release CLEAR has the posting number
none is the model's reading (assumption log 13). -/
def Obligations.ClaimRequestsAreDecided : Prop :=
  ∀ (p q : ProgId) (c : ChanId) (s : Machine.Part), q ≠ p →
    let ch := s.channel c
    let t := s.claimRequest p c
    let joined := if ch.waiting.any (fun w => w.1 == p) then ch.waiting else ch.waiting ++ [(p, s.clock.frame)]
    let clear : QCommand :=
      { program := p, action := .clear, param := 0, asset := 0, posting := none, tag := 0, frame := s.clock.frame }
    let wins := s.priority q < s.priority p ∧ c ∉ s.airingSet q
    (∀ e, e ≠ c → t.channel e = s.channel e ∧ (s.releaseRequest p c).channel e = s.channel e)
      ∧ (ch.claim = .free → t.channel c = { ch with claim := .held p })
      ∧ (ch.claim = .held p → t = s)
      ∧ (∀ k, ch.claim = .releasing p → ch.release = some k → t.channel c = { ch with claim := .held p, release := none })
      ∧ (ch.claim = .releasing p → ch.release = none →
          t.channel c = { ch with returnReq := some (ch.returnReq.getD s.clock.frame) })
      ∧ (ch.claim = .releasing q → t.channel c = { ch with waiting := joined })
      ∧ (ch.claim = .held q → ¬ wins → t.channel c = { ch with waiting := joined })
      ∧ (ch.claim = .held q → wins → (t.channel c).claim = .held p
          ∧ (t.channel c).queue = ch.queue.filter (fun k => k.program != q)
          ∧ (t.channel c).onStates.at q = false ∧ (t.channel c).current = ch.current
          ∧ (t.channel c).waiting = ch.waiting.filter (fun w => w.1 != p) ++ [(q, s.clock.frame)]
          ∧ RowsLost q ch.queue .preempted s t ∧ (∀ v, v ≠ q → t.firing v = s.firing v)
          ∧ Raises .preempted { program := some q, channel := some (c.val + 1) } s t)
      ∧ (ch.claim = .held p → (s.releaseRequest p c).channel c =
          { ch with claim := .releasing p, release := some clear })
      ∧ (ch.claim ≠ .held p → s.releaseRequest p c = s)

/-- The line commands: SET_LINE is checked parameter by parameter and waits for the next frame start (R165); DRIVE_LINE
sets the manual request of a MANUAL_OUT line (R168); ARM_LINE and DISARM_LINE arm and disarm an action line, the latter
dropping a press half-way through (R177); the line and its driven level follow at once (R167). The positions of the
parameters (assumption log 17), and the function's bare code as the data of BUSY (assumption log 25), are the model's
readings. -/
def Obligations.LineCommandsChangeOneLine : Prop :=
  ∀ (o : Origin) (line code first second polarity policy debounce level : Byte) (s : State), Listening s.toPart →
    let set := Instr.setLine o line code first second polarity policy debounce
    let no (i : Instr) (k n : Nat) : Prop := Refused i s o k (Reply.refuse .range 16 (be1 n))
    let bad1 := line.toNat = 0 ∨ 32 < line.toNat
    let bad2 := 11 < code.toNat
    let usesProgram := code.toNat ∈ [2, 3, 4, 7, 8, 9, 10]
    let bad3 := (usesProgram ∧ 3 < first.toNat)
      ∨ (code.toNat ∈ [5, 6] ∧ (first.toNat = 0 ∨ 16 < first.toNat))
    let bad4 := (code.toNat ∈ [2, 3] ∧ (second.toNat = 0 ∨ 24 < second.toNat)) ∨ (code.toNat = 10 ∧ 15 < second.toNat)
    let bad5 := 1 < polarity.toNat
    let bad6 := 1 < policy.toNat
    let bad7 := debounce.toNat = 0 ∨ 15 < debounce.toNat
    (bad1 → no set 0x50 1 ∧ no (.driveLine o line level) 0x51 1 ∧ no (.armLine o line) 0x52 1
        ∧ no (.disarmLine o line) 0x53 1)
      ∧ ∀ l : LineId, l.val + 1 = line.toNat →
        let ln := s.line l
        let wrong (i : Instr) (k : Nat) : Prop := Refused i s o k (Reply.refuse .busy 22 (be1 ln.fn.code))
        (bad2 → no set 0x50 2) ∧ (¬ bad2 → bad3 → no set 0x50 3) ∧ (¬ bad2 → ¬ bad3 → bad4 → no set 0x50 4)
          ∧ (¬ bad2 → ¬ bad3 → ¬ bad4 → bad5 → no set 0x50 5)
          ∧ (¬ bad2 → ¬ bad3 → ¬ bad4 → ¬ bad5 → bad6 → no set 0x50 6)
          ∧ (¬ bad2 → ¬ bad3 → ¬ bad4 → ¬ bad5 → ¬ bad6 → bad7 → no set 0x50 7)
          ∧ (¬ bad2 → ¬ bad3 → ¬ bad4 → ¬ bad5 → ¬ bad6 → ¬ bad7 → ∃ t, exec set s = .next t
              ∧ ∃ fn : LineFn, fn.code = code.toNat
                ∧ (usesProgram ∨ code.toNat ∈ [5, 6] → fn.params.1 = first.toNat)
                ∧ (code.toNat ∈ [2, 3, 10] → fn.params.2 = second.toNat)
                ∧ let g : LineConfig :=
                    { fn := fn, polarity := if polarity = 0 then .activeClosed else .activeOpen
                      policy := if policy = 0 then .keep else .safe, debounce := debounce.toNat }
                  LineAnswers l (fun x => { x with pending := some g }) s t o 0x50 (Reply.done []))
          ∧ (1 < level.toNat → no (.driveLine o line level) 0x51 2)
          ∧ (level.toNat ≤ 1 → ln.fn ≠ .manualOut → wrong (.driveLine o line level) 0x51)
          ∧ (level.toNat ≤ 1 → ln.fn = .manualOut → ∃ t, exec (.driveLine o line level) s = .next t
              ∧ LineAnswers l (fun x => { x with manual := decide (level = 1) }) s t o 0x51 (Reply.done [])
              ∧ (t.line l).requested = some (decide (level = 1)))
          ∧ (ln.fn.actionProgram = none → wrong (.armLine o line) 0x52 ∧ wrong (.disarmLine o line) 0x53)
          ∧ (ln.fn.actionProgram ≠ none → (∃ t, exec (.armLine o line) s = .next t
                ∧ LineAnswers l (fun x => { x with armed := true }) s t o 0x52 (Reply.done []))
              ∧ ∃ t, exec (.disarmLine o line) s = .next t ∧ LineAnswers l
                  (fun x => if x.armed then { x with armed := false, change := none } else x) s t o 0x53
                  (Reply.done []))

/-- The rows of a line: three mismatches set the fault flag once (R175); a debounced change becomes the accepted level,
and one of a DISARMED line, or a deactivation, does nothing more (R176, R177); pending configurations and namings take
effect, and a line whose function or polarity changes restarts, while another that has been configured drops its pending
change and mismatch count alone (R166). An accepted activation of an ARMED line acts as its command: INPUT_TAKE, by the
P of the frame start (R121), cancelling a park (R101), and nothing without an entry to take (R88), INPUT_HOLD, which
holds in RUNNING, releases in HELD and does nothing else, INPUT_BREAK, with BREAK_IN_FAILED when it is refused, and
INPUT_FIRE, refused in silence; a PARKED program is unparked first, so that all but an INPUT_BREAK then do nothing
(R102, R177, R178). The model's readings: the rows are steps alone with their guards (assumption log 15), a function's
parameters belong to it, so that their change restarts the line (assumption log 39), and a take's airing set stands in
REHEARSAL too (assumption log 27). -/
def Obligations.LineRowsTakeEffect : Prop :=
  ∀ (l : LineId) (s : State), s.active = true →
    let ln := s.line l
    let rest (t : State) (x : Line) : Prop :=
      ∀ m, let y := if m = l then x else s.line m
           t.line m = y.withLevels t.trunkLoss (t.requestedLevel y)
    (ln.fn.isOutput = true → ln.mismatch = 3 → ln.fault = false → ∃ t, exec (.lineFault l) s = .next t
        ∧ KeepsBut [.lines, .notices] s t ∧ rest t { ln with fault := true }
        ∧ Raises .lineFault { line := some (l.val + 1) } s.toPart t.toPart)
      ∧ (¬ (ln.fn.isOutput = true ∧ ln.mismatch = 3 ∧ ln.fault = false) →
          ∃ t, exec (.lineFault l) s = .next t ∧ EventKeeps [] s t)
      ∧ (∀ b n, ln.fn.isInput = true → ln.change = some (b, n) → ln.config.debounce ≤ n →
          (b = false ∨ ln.armed = false ∨ ln.fn.actionProgram = none) →
          ∃ t, exec (.acceptedLevelChange l) s = .next t ∧ KeepsBut [.lines] s t
            ∧ rest t { ln with accepted := b, change := none })
      ∧ (∀ p n e taken, ln.fn = .inputHold p → ln.change = some (true, n) → ln.config.debounce ≤ n → ln.armed = true →
          (s.runner p).state = .running → s.onAirEntry p = some e → e.takeFrame = some taken →
          (s.runner p).held = none →
          ∃ t, exec (.acceptedLevelChange l) s = .next t ∧ KeepsBut [.lines, .runners] s t
            ∧ rest t { ln with accepted := true, change := none }
            ∧ t.runner p = { s.runner p with state := .held, held := s.elapsed p })
      ∧ (∀ p n e taken x, ln.fn = .inputHold p → ln.change = some (true, n) → ln.config.debounce ≤ n → ln.armed = true →
          (s.runner p).state = .held → s.onAirEntry p = some e → e.takeFrame = some taken → (s.runner p).held = some x →
          x < 4294967296 →
          ∃ t, exec (.acceptedLevelChange l) s = .next t ∧ KeepsBut [.lines, .runners] s t
            ∧ rest t { ln with accepted := true, change := none }
            ∧ (∃ k, k < 4294967296 ∧ (k + x + taken) % 4294967296 = s.clock.frame % 4294967296
                ∧ t.runner p = { s.runner p with state := .running, held := none, correction := k })
            ∧ t.elapsed p = some x)
      ∧ (∀ p n, ln.fn = .inputHold p → ln.change = some (true, n) → ln.config.debounce ≤ n → ln.armed = true →
          (s.runner p).state = .idle ∨ (s.runner p).state = .parkPending →
          ∃ t, exec (.acceptedLevelChange l) s = .next t ∧ KeepsBut [.lines] s t
            ∧ rest t { ln with accepted := true, change := none })
      ∧ (∀ p n x, ln.fn = .inputTake p → ln.change = some (true, n) → ln.config.debounce ≤ n → ln.armed = true →
          (s.runner p).state ≠ .parked → (s.runner p).state ≠ .parkPending → ProgramOk s.toPart p →
          s.nextEntry p = some x →
          ∃ t, exec (.acceptedLevelChange l) s = .next t ∧ TakeMade p x id (s.planned x.record) s t ∧ t.intake = s.intake
            ∧ rest t { ln with accepted := true, change := none })
      ∧ (∀ p n x, ln.fn = .inputTake p → ln.change = some (true, n) → ln.config.debounce ≤ n → ln.armed = true →
          (s.runner p).state = .parkPending → ProgramOk s.toPart p → (s.rundown p).afterMark.find? Entry.waits = some x →
          ∃ t, exec (.acceptedLevelChange l) s = .next t ∧ TakeMade p x id (s.planned x.record) s t ∧ t.intake = s.intake
            ∧ rest t { ln with accepted := true, change := none })
      ∧ (∀ p n, ln.fn = .inputTake p → ln.change = some (true, n) → ln.config.debounce ≤ n → ln.armed = true →
          (s.runner p).state ≠ .parked →
          (if (s.runner p).state = .parkPending then (s.rundown p).afterMark.find? Entry.waits else s.nextEntry p) = none →
          ∃ t, exec (.acceptedLevelChange l) s = .next t ∧ KeepsBut [.lines] s t
            ∧ rest t { ln with accepted := true, change := none })
      ∧ (∀ p n, (ln.fn = .inputTake p ∨ ln.fn = .inputHold p ∨ ∃ j, ln.fn = .inputFire p j) →
          ln.change = some (true, n) → ln.config.debounce ≤ n → ln.armed = true →
          (s.runner p).state = .parked → ProgramOk s.toPart p →
          ∃ t, exec (.acceptedLevelChange l) s = .next t ∧ ListKeeps p s t ∧ t.intake = s.intake ∧ t.store = s.store
            ∧ (t.runner p).state = .idle ∧ t.rundown p = { s.rundown p with entries := (s.rundown p).reselected }
            ∧ rest t { ln with accepted := true, change := none })
      ∧ (∀ p n, ln.fn = .inputBreak p → ln.change = some (true, n) → ln.config.debounce ≤ n → ln.armed = true →
          (∀ x ∈ (s.runner p).settings.breakIn, 128 ≤ (s.rundown p).entries.length
            ∨ 256 ≤ (allPrograms.map (fun q => (s.rundown q).entries.length)).sum
            ∨ (s.record x).state ≠ .ready ∨ 255 ≤ (s.record x).links) →
          ∃ t, exec (.acceptedLevelChange l) s = .next t ∧ rest t { ln with accepted := true, change := none }
            ∧ ((s.runner p).state ≠ .parked → KeepsBut [.lines, .notices] s t
                ∧ Raises .breakInFailed { program := some p } s.toPart t.toPart)
            ∧ ((s.runner p).state = .parked → ProgramOk s.toPart p → ListKeeps p s t ∧ t.intake = s.intake
                ∧ t.store = s.store ∧ (t.runner p).state = .idle
                ∧ t.rundown p = { s.rundown p with entries := (s.rundown p).reselected }
                ∧ ((∃ m ∈ t.notices, m.kind = .breakInFailed ∧ m.subject = { program := some p })
                  ∨ 32 ≤ t.notices.length)))
      ∧ (∀ p n tag a b, ∀ x : RecId, ln.fn = .inputBreak p → ln.change = some (true, n) → ln.config.debounce ≤ n →
          ln.armed = true → ProgramOk s.toPart p → (s.runner p).settings.breakIn = some x → (s.rundown p).entries.length < 128 →
          (allPrograms.map (fun q => (s.rundown q).entries.length)).sum < 256 →
          (s.record x).state = .ready → (s.record x).links < 255 →
          65280 ≤ tag → tag ∉ (s.rundown p).entries.map Entry.tag →
          (∀ m, 65280 ≤ m → m < tag → m ∈ (s.rundown p).entries.map Entry.tag) →
          SplitsAfter (s.rundown p).entries ((s.rundown p).mark.getD 0) a b →
          let e : Entry := { tag := tag, record := x, state := .next, breaking := true, takeFrame := none
                             actual := none, airings := 0 }
          let back := fun (y : Entry) => if y.state = .next then { y with state := .pending } else y
          ∃ t, exec (.acceptedLevelChange l) s = .next t ∧ ListKeeps p s t ∧ t.intake = s.intake
            ∧ rest t { ln with accepted := true, change := none }
            ∧ t.rundown p = { s.rundown p with entries := a.map back ++ e :: b.map back }
            ∧ (t.runner p).pinned = true ∧ (t.record x).links = (s.record x).links + 1
            ∧ (t.runner p).state = (if parking (s.runner p).state then
                (if s.onAirEntry p = none then .idle else if (s.runner p).held = none then .running else .held)
                else (s.runner p).state))
      ∧ (∀ p n, ∀ j : Fin 16, ln.fn = .inputFire p j → ln.change = some (true, n) → ln.config.debounce ≤ n →
          ln.armed = true → (s.runner p).state ≠ .parked →
          let row := if s.onAirEntry p = none then none else (s.firing p).onAir.rows[j.val]?
          let firable (r : Row) : Prop :=
            if r.anchor = .manual then r.held = none else (r.outcome = .waiting ∨ r.outcome = .skipped)
          (∀ r, row = some r → firable r → ∃ t, exec (.acceptedLevelChange l) s = .next t
              ∧ RowFired p .onAir j.val r s t ∧ KeepsBut [.lines, .firings, .channels, .notices] s t
              ∧ rest t { ln with accepted := true, change := none })
            ∧ ((∀ r, row = some r → ¬ firable r) → ∃ t, exec (.acceptedLevelChange l) s = .next t
                ∧ KeepsBut [.lines] s t ∧ rest t { ln with accepted := true, change := none }))
      ∧ ((ln.fn.isInput = false ∨ ln.change = none ∨ ∃ b n, ln.change = some (b, n) ∧ n < ln.config.debounce) →
          ∃ t, exec (.acceptedLevelChange l) s = .next t ∧ EventKeeps [] s t)
      ∧ ∃ t, exec .lineConfigurationTakesEffect s = .next t ∧ KeepsBut [.lines] s t
          ∧ (t.line l).config = ln.pending.getD ln.config ∧ (t.line l).pending = none
          ∧ (t.line l).naming = (match allPresenters.find? (fun k =>
              (s.presenter k).settings.cue == l.val + 1 || (s.presenter k).settings.standby == l.val + 1) with
            | some k => some (k, (s.presenter k).settings.cue == l.val + 1)
            | none => none)
          ∧ ((t.line l).fn ≠ ln.fn ∨ (t.line l).config.polarity ≠ ln.config.polarity →
              (t.line l).armed = false ∧ (t.line l).fault = false ∧ (t.line l).accepted = false
                ∧ (t.line l).change = none ∧ (t.line l).mismatch = 0 ∧ (t.line l).manual = false)
          ∧ ((t.line l).fn = ln.fn → (t.line l).config.polarity = ln.config.polarity →
              (t.line l).armed = ln.armed ∧ (t.line l).accepted = ln.accepted ∧ (t.line l).fault = ln.fault
                ∧ (t.line l).manual = ln.manual
                ∧ (t.line l).change = (if ln.pending = none then ln.change else none)
                ∧ (t.line l).mismatch = (if ln.pending = none then ln.mismatch else 0))

/-! ### Frame time -/

/-- R29, R30, R32 and R33: the day frame of a label, and the label of a day frame, at the non-drop and at the drop-frame
rates, with their constants. -/
def Obligations.LabelsFollowTheFormulas : Prop :=
  (∀ (r : Rate) (n : Nat), (r, n) ∈ ([(.r25, 25), (.r30, 30), (.r50, 50), (.r60, 60)] : List (Rate × Nat)) →
      (∀ hh mm ss ff, let x : Label := { hh := hh, mm := mm, ss := ss, ff := ff }
          labelSkipped r x = false ∧ labelDay r x = (hh * 3600 + mm * 60 + ss) * n + ff)
        ∧ ∀ f, dayLabel r f = { hh := f / (3600 * n), mm := f / (60 * n) % 60, ss := f / n % 60, ff := f % n })
    ∧ ∀ (r : Rate) (n k t m j : Nat),
        (r, n, k, t, m, j) ∈ ([(.r30df, 30, 2, 17982, 1798, 18), (.r60df, 60, 4, 35964, 3596, 36)] :
          List (Rate × Nat × Nat × Nat × Nat × Nat)) →
        (∀ hh mm ss ff, let x : Label := { hh := hh, mm := mm, ss := ss, ff := ff }
          let tm := hh * 60 + mm
          labelDay r x = (hh * 3600 + mm * 60 + ss) * n + ff - k * (tm - tm / 10))
        ∧ ∀ f, let q := f / t
            let rest := f % t
            let adjustment := if k ≤ rest then k * ((rest - k) / m) else 0
            let x := f + j * q + adjustment
            dayLabel r f = { hh := x / (3600 * n), mm := x / (60 * n) % 60, ss := x / n % 60, ff := x % n }

/-- At every rate the labels that exist and the day frames from 0 to D - 1 correspond one to one: the label of
a day frame is in range, exists and has that day frame, and an existing label comes back from its day frame (R28, R31,
R32, R33). -/
def Obligations.LabelsAndDayFramesCorrespond : Prop :=
  ∀ r : Rate,
    (∀ f, f < rateDay r → labelInRange r (dayLabel r f) = true ∧ labelSkipped r (dayLabel r f) = false
        ∧ labelDay r (dayLabel r f) = f)
      ∧ (∀ x : Label, labelInRange r x = true → labelSkipped r x = false →
          labelDay r x < rateDay r ∧ dayLabel r (labelDay r x) = x)
      ∧ ∀ x : Label, labelInRange r x = true → labelSkipped r (labelRead r x) = false

/-- The signed difference of two day frames lies above -D/2 and up to D/2 and is their difference modulo D (R34); a
point is reached by an advance of one frame exactly onto it, and never at or above D (R35); frames of either sign convert to
whole seconds toward zero, held to -32,767 to 32,767 (R37), and seconds to frames rounded up, so that a threshold converts
back to its seconds (R38). -/
def Obligations.TimeDifferencesAndPoints : Prop :=
  ∀ r : Rate,
    (∀ a b, a < rateDay r → b < rateDay r →
        -(rateDay r : Int) < 2 * signedDiff r a b ∧ 2 * signedDiff r a b ≤ rateDay r
          ∧ (signedDiff r a b - ((a : Int) - b)) % (rateDay r : Int) = 0)
      ∧ (∀ (c : Clock) (t : Nat), c.rate = r → c.rateStart = false → c.prevDay < rateDay r →
          c.day = (c.prevDay + 1) % rateDay r → (c.reached t = true ↔ t = c.day))
      ∧ (∀ (c : Clock) (t : Nat), c.rate = r → rateDay r ≤ t → c.reached t = false)
      ∧ (∀ (c : Clock) (t : Nat), c.rateStart = true → c.reached t = false)
      ∧ (∀ n : Nat,
          let seconds := min 32767 (n * rateDen r / rateNum r)
          toSeconds r (n : Int) = (seconds : Int) ∧ toSeconds r (-(n : Int)) = -(seconds : Int))
      ∧ ∀ x, x ≤ 600 →
          x * rateNum r ≤ secondsToFrames r x * rateDen r
            ∧ secondsToFrames r x * rateDen r < x * rateNum r + rateDen r
            ∧ toSeconds r (secondsToFrames r x) = x

/-! ### Invariants -/

/-- HEADLINE. Every command from every state that meets them keeps the bounds of the queues and pools (R17, R20, R61,
R139, R156, R181), the order of the notices (R182), the range of the clock (R25), the canonical form of every record's
content, the waiting lists, at most three programs in each (R151, R154), the release commands, each a CLEAR (R153,
R158), and the owned slots, at most four of them for replies, each in 1 to 47 and all of them distinct (R12), in a part
whose programs are in a legal state, their tags unique among it (R61, R64). -/
def Obligations.EveryCommandKeepsBoundsAndOrder : Prop :=
  ∀ (i : Instr) (s t : State), exec i s = .next t →
    (∀ p, ProgramOk s.toPart p) → Bounded s.toPart ∧ NoticesOrdered s.toPart ∧ ClockOk s.toPart ∧ StoreOk s.toPart →
    (Bounded t.toPart ∧ NoticesOrdered t.toPart ∧ ClockOk t.toPart ∧ StoreOk t.toPart)
      ∧ (ClaimsOk s.toPart → ClaimsOk t.toPart) ∧ (SlotsOk s.toPart → SlotsOk t.toPart)
      ∧ (ReleasesOk s.toPart → ReleasesOk t.toPart)

/-- HEADLINE. Every command keeps every program in a legal state: unique tags, at most one NEXT and one ON_AIR entry,
neither in a PARKED program, an ON_AIR entry in RUNNING and HELD, a take mark and a pin that name entries (R63, R64, R76,
R80, R85); and with that each record's link count stays the number of entries that refer to it, every linked record
READY (R56), and with both the NEXT table stays that of the NEXT entry, filled from its story, and empty without one (R97,
R130, R131). -/
def Obligations.EveryCommandKeepsProgramsAndLinks : Prop :=
  ∀ (i : Instr) (s t : State), exec i s = .next t → (∀ p, ProgramOk s.toPart p) →
    (∀ p, ProgramOk t.toPart p) ∧ (LinksOk s.toPart → LinksOk t.toPart)
      ∧ (LinksOk s.toPart → (∀ p, NextTableOk s.toPart p) → ∀ p, NextTableOk t.toPart p)

/-- HEADLINE. After every command an on-state is set only on a shareable channel or one claimed for its program (R162),
and every line shows what its function requests (R167, R169, R173): a TALLY line of an active part is lit only for a LIVE
program that may use the channel. -/
def Obligations.EveryCommandKeepsLampsTrue : Prop :=
  ∀ (i : Instr) (s t : State), exec i s = .next t → OnStatesOk s.toPart → LinesShown s.toPart →
    OnStatesOk t.toPart ∧ LinesShown t.toPart
      ∧ ∀ l p c, t.active = true → t.trunkLoss = .normal → (t.line l).fn = .tally p c → (t.line l).output = some true →
          (t.runner p).mode = .live ∧ ((t.channel c).shareable = true ∨ (t.channel c).claim.program = some p)

/-- The state after reset meets every invariant above. -/
def Obligations.ResetMeetsTheInvariants : Prop :=
  Bounded State.reset.toPart ∧ NoticesOrdered State.reset.toPart ∧ ClockOk State.reset.toPart
    ∧ StoreOk State.reset.toPart ∧ (∀ p, ProgramOk State.reset.toPart p) ∧ LinksOk State.reset.toPart
    ∧ OnStatesOk State.reset.toPart ∧ LinesShown State.reset.toPart ∧ ClaimsOk State.reset.toPart
    ∧ SlotsOk State.reset.toPart ∧ ReleasesOk State.reset.toPart ∧ ∀ p, NextTableOk State.reset.toPart p

end
end

