-- ==== Sys2Proof/Laws/State.lean ====
section
/-! SUPPORT. What each update of the part changes: one lemma for each update and field, and what a bank reads after an
update of one of its members. -/

namespace Sys2Proof

/-! ### Banks -/

@[simp] theorem Bank.at_upd_self (b : Bank α n) (i : Fin n) (f : α → α) : Bank.at (Bank.upd b i f) i = f (Bank.at b i) := by
  simp [Bank.at, Bank.upd]

theorem Bank.at_upd_of_ne (b : Bank α n) {i j : Fin n} (f : α → α) (h : j ≠ i) :
    Bank.at (Bank.upd b i f) j = Bank.at b j := by
  have h' : ¬ i.val = j.val := fun e => h (Fin.ext e.symm)
  simp [Bank.at, Bank.upd, h']

/-- What a member reads after one member is changed. -/
theorem Bank.at_upd (b : Bank α n) (i j : Fin n) (f : α → α) :
    Bank.at (Bank.upd b i f) j = if j = i then f (Bank.at b i) else Bank.at b j := by
  by_cases h : j = i
  · subst h; simp
  · simp [h, Bank.at_upd_of_ne]

@[simp] theorem Bank.at_map (b : Bank α n) (f : α → β) (i : Fin n) : Bank.at (Vector.map f b) i = f (Bank.at b i) := by
  simp [Bank.at]

@[simp] theorem Bank.at_replicate (x : α) (i : Fin n) : Bank.at (Vector.replicate n x) i = x := by
  simp [Bank.at]

/-- Two banks that read the same everywhere are the same. -/
theorem Bank.ext_at {a b : Bank α n} (h : ∀ i, Bank.at a i = Bank.at b i) : a = b := by
  apply Vector.ext
  intro i hi
  exact h ⟨i, hi⟩

namespace Machine

/-! ### onPort -/

@[simp] theorem Part.onPort_port (s : Part) (f : Port → Port) : (s.onPort f).port = f s.port := rfl
@[simp] theorem Part.onPort_intake (s : Part) (f : Port → Port) : (s.onPort f).intake = s.intake := rfl
@[simp] theorem Part.onPort_clock (s : Part) (f : Port → Port) : (s.onPort f).clock = s.clock := rfl
@[simp] theorem Part.onPort_store (s : Part) (f : Port → Port) : (s.onPort f).store = s.store := rfl
@[simp] theorem Part.onPort_rundowns (s : Part) (f : Port → Port) : (s.onPort f).rundowns = s.rundowns := rfl
@[simp] theorem Part.onPort_runners (s : Part) (f : Port → Port) : (s.onPort f).runners = s.runners := rfl
@[simp] theorem Part.onPort_firings (s : Part) (f : Port → Port) : (s.onPort f).firings = s.firings := rfl
@[simp] theorem Part.onPort_airing (s : Part) (f : Port → Port) : (s.onPort f).airing = s.airing := rfl
@[simp] theorem Part.onPort_timings (s : Part) (f : Port → Port) : (s.onPort f).timings = s.timings := rfl
@[simp] theorem Part.onPort_presenters (s : Part) (f : Port → Port) : (s.onPort f).presenters = s.presenters := rfl
@[simp] theorem Part.onPort_channels (s : Part) (f : Port → Port) : (s.onPort f).channels = s.channels := rfl
@[simp] theorem Part.onPort_lines (s : Part) (f : Port → Port) : (s.onPort f).lines = s.lines := rfl
@[simp] theorem Part.onPort_trunkLoss (s : Part) (f : Port → Port) : (s.onPort f).trunkLoss = s.trunkLoss := rfl
@[simp] theorem Part.onPort_notices (s : Part) (f : Port → Port) : (s.onPort f).notices = s.notices := rfl
@[simp] theorem Part.onPort_noticesLost (s : Part) (f : Port → Port) : (s.onPort f).noticesLost = s.noticesLost := rfl
@[simp] theorem Part.onPort_draws (s : Part) (f : Port → Port) : (s.onPort f).draws = s.draws := rfl
@[simp] theorem Part.onPort_record (s : Part) (f : Port → Port) (i : RecId) : (s.onPort f).record i = s.record i := rfl
@[simp] theorem Part.onPort_rundown (s : Part) (f : Port → Port) (i : ProgId) : (s.onPort f).rundown i = s.rundown i := rfl
@[simp] theorem Part.onPort_runner (s : Part) (f : Port → Port) (i : ProgId) : (s.onPort f).runner i = s.runner i := rfl
@[simp] theorem Part.onPort_firing (s : Part) (f : Port → Port) (i : ProgId) : (s.onPort f).firing i = s.firing i := rfl
@[simp] theorem Part.onPort_airingSet (s : Part) (f : Port → Port) (i : ProgId) : (s.onPort f).airingSet i = s.airingSet i := rfl
@[simp] theorem Part.onPort_timing (s : Part) (f : Port → Port) (i : ProgId) : (s.onPort f).timing i = s.timing i := rfl
@[simp] theorem Part.onPort_presenter (s : Part) (f : Port → Port) (i : PresId) : (s.onPort f).presenter i = s.presenter i := rfl
@[simp] theorem Part.onPort_channel (s : Part) (f : Port → Port) (i : ChanId) : (s.onPort f).channel i = s.channel i := rfl
@[simp] theorem Part.onPort_line (s : Part) (f : Port → Port) (i : LineId) : (s.onPort f).line i = s.line i := rfl

/-! ### onIntake -/

@[simp] theorem Part.onIntake_intake (s : Part) (f : Intake → Intake) : (s.onIntake f).intake = f s.intake := rfl
@[simp] theorem Part.onIntake_port (s : Part) (f : Intake → Intake) : (s.onIntake f).port = s.port := rfl
@[simp] theorem Part.onIntake_clock (s : Part) (f : Intake → Intake) : (s.onIntake f).clock = s.clock := rfl
@[simp] theorem Part.onIntake_store (s : Part) (f : Intake → Intake) : (s.onIntake f).store = s.store := rfl
@[simp] theorem Part.onIntake_rundowns (s : Part) (f : Intake → Intake) : (s.onIntake f).rundowns = s.rundowns := rfl
@[simp] theorem Part.onIntake_runners (s : Part) (f : Intake → Intake) : (s.onIntake f).runners = s.runners := rfl
@[simp] theorem Part.onIntake_firings (s : Part) (f : Intake → Intake) : (s.onIntake f).firings = s.firings := rfl
@[simp] theorem Part.onIntake_airing (s : Part) (f : Intake → Intake) : (s.onIntake f).airing = s.airing := rfl
@[simp] theorem Part.onIntake_timings (s : Part) (f : Intake → Intake) : (s.onIntake f).timings = s.timings := rfl
@[simp] theorem Part.onIntake_presenters (s : Part) (f : Intake → Intake) : (s.onIntake f).presenters = s.presenters := rfl
@[simp] theorem Part.onIntake_channels (s : Part) (f : Intake → Intake) : (s.onIntake f).channels = s.channels := rfl
@[simp] theorem Part.onIntake_lines (s : Part) (f : Intake → Intake) : (s.onIntake f).lines = s.lines := rfl
@[simp] theorem Part.onIntake_trunkLoss (s : Part) (f : Intake → Intake) : (s.onIntake f).trunkLoss = s.trunkLoss := rfl
@[simp] theorem Part.onIntake_notices (s : Part) (f : Intake → Intake) : (s.onIntake f).notices = s.notices := rfl
@[simp] theorem Part.onIntake_noticesLost (s : Part) (f : Intake → Intake) : (s.onIntake f).noticesLost = s.noticesLost := rfl
@[simp] theorem Part.onIntake_draws (s : Part) (f : Intake → Intake) : (s.onIntake f).draws = s.draws := rfl
@[simp] theorem Part.onIntake_record (s : Part) (f : Intake → Intake) (i : RecId) : (s.onIntake f).record i = s.record i := rfl
@[simp] theorem Part.onIntake_rundown (s : Part) (f : Intake → Intake) (i : ProgId) : (s.onIntake f).rundown i = s.rundown i := rfl
@[simp] theorem Part.onIntake_runner (s : Part) (f : Intake → Intake) (i : ProgId) : (s.onIntake f).runner i = s.runner i := rfl
@[simp] theorem Part.onIntake_firing (s : Part) (f : Intake → Intake) (i : ProgId) : (s.onIntake f).firing i = s.firing i := rfl
@[simp] theorem Part.onIntake_airingSet (s : Part) (f : Intake → Intake) (i : ProgId) : (s.onIntake f).airingSet i = s.airingSet i := rfl
@[simp] theorem Part.onIntake_timing (s : Part) (f : Intake → Intake) (i : ProgId) : (s.onIntake f).timing i = s.timing i := rfl
@[simp] theorem Part.onIntake_presenter (s : Part) (f : Intake → Intake) (i : PresId) : (s.onIntake f).presenter i = s.presenter i := rfl
@[simp] theorem Part.onIntake_channel (s : Part) (f : Intake → Intake) (i : ChanId) : (s.onIntake f).channel i = s.channel i := rfl
@[simp] theorem Part.onIntake_line (s : Part) (f : Intake → Intake) (i : LineId) : (s.onIntake f).line i = s.line i := rfl

/-! ### onClock -/

@[simp] theorem Part.onClock_clock (s : Part) (f : Clock → Clock) : (s.onClock f).clock = f s.clock := rfl
@[simp] theorem Part.onClock_port (s : Part) (f : Clock → Clock) : (s.onClock f).port = s.port := rfl
@[simp] theorem Part.onClock_intake (s : Part) (f : Clock → Clock) : (s.onClock f).intake = s.intake := rfl
@[simp] theorem Part.onClock_store (s : Part) (f : Clock → Clock) : (s.onClock f).store = s.store := rfl
@[simp] theorem Part.onClock_rundowns (s : Part) (f : Clock → Clock) : (s.onClock f).rundowns = s.rundowns := rfl
@[simp] theorem Part.onClock_runners (s : Part) (f : Clock → Clock) : (s.onClock f).runners = s.runners := rfl
@[simp] theorem Part.onClock_firings (s : Part) (f : Clock → Clock) : (s.onClock f).firings = s.firings := rfl
@[simp] theorem Part.onClock_airing (s : Part) (f : Clock → Clock) : (s.onClock f).airing = s.airing := rfl
@[simp] theorem Part.onClock_timings (s : Part) (f : Clock → Clock) : (s.onClock f).timings = s.timings := rfl
@[simp] theorem Part.onClock_presenters (s : Part) (f : Clock → Clock) : (s.onClock f).presenters = s.presenters := rfl
@[simp] theorem Part.onClock_channels (s : Part) (f : Clock → Clock) : (s.onClock f).channels = s.channels := rfl
@[simp] theorem Part.onClock_lines (s : Part) (f : Clock → Clock) : (s.onClock f).lines = s.lines := rfl
@[simp] theorem Part.onClock_trunkLoss (s : Part) (f : Clock → Clock) : (s.onClock f).trunkLoss = s.trunkLoss := rfl
@[simp] theorem Part.onClock_notices (s : Part) (f : Clock → Clock) : (s.onClock f).notices = s.notices := rfl
@[simp] theorem Part.onClock_noticesLost (s : Part) (f : Clock → Clock) : (s.onClock f).noticesLost = s.noticesLost := rfl
@[simp] theorem Part.onClock_draws (s : Part) (f : Clock → Clock) : (s.onClock f).draws = s.draws := rfl
@[simp] theorem Part.onClock_record (s : Part) (f : Clock → Clock) (i : RecId) : (s.onClock f).record i = s.record i := rfl
@[simp] theorem Part.onClock_rundown (s : Part) (f : Clock → Clock) (i : ProgId) : (s.onClock f).rundown i = s.rundown i := rfl
@[simp] theorem Part.onClock_runner (s : Part) (f : Clock → Clock) (i : ProgId) : (s.onClock f).runner i = s.runner i := rfl
@[simp] theorem Part.onClock_firing (s : Part) (f : Clock → Clock) (i : ProgId) : (s.onClock f).firing i = s.firing i := rfl
@[simp] theorem Part.onClock_airingSet (s : Part) (f : Clock → Clock) (i : ProgId) : (s.onClock f).airingSet i = s.airingSet i := rfl
@[simp] theorem Part.onClock_timing (s : Part) (f : Clock → Clock) (i : ProgId) : (s.onClock f).timing i = s.timing i := rfl
@[simp] theorem Part.onClock_presenter (s : Part) (f : Clock → Clock) (i : PresId) : (s.onClock f).presenter i = s.presenter i := rfl
@[simp] theorem Part.onClock_channel (s : Part) (f : Clock → Clock) (i : ChanId) : (s.onClock f).channel i = s.channel i := rfl
@[simp] theorem Part.onClock_line (s : Part) (f : Clock → Clock) (i : LineId) : (s.onClock f).line i = s.line i := rfl

/-! ### onRecord -/

@[simp] theorem Part.onRecord_store (s : Part) (i : RecId) (f : Record → Record) : (s.onRecord i f).store = Bank.upd s.store i f := rfl
@[simp] theorem Part.onRecord_port (s : Part) (i : RecId) (f : Record → Record) : (s.onRecord i f).port = s.port := rfl
@[simp] theorem Part.onRecord_intake (s : Part) (i : RecId) (f : Record → Record) : (s.onRecord i f).intake = s.intake := rfl
@[simp] theorem Part.onRecord_clock (s : Part) (i : RecId) (f : Record → Record) : (s.onRecord i f).clock = s.clock := rfl
@[simp] theorem Part.onRecord_rundowns (s : Part) (i : RecId) (f : Record → Record) : (s.onRecord i f).rundowns = s.rundowns := rfl
@[simp] theorem Part.onRecord_runners (s : Part) (i : RecId) (f : Record → Record) : (s.onRecord i f).runners = s.runners := rfl
@[simp] theorem Part.onRecord_firings (s : Part) (i : RecId) (f : Record → Record) : (s.onRecord i f).firings = s.firings := rfl
@[simp] theorem Part.onRecord_airing (s : Part) (i : RecId) (f : Record → Record) : (s.onRecord i f).airing = s.airing := rfl
@[simp] theorem Part.onRecord_timings (s : Part) (i : RecId) (f : Record → Record) : (s.onRecord i f).timings = s.timings := rfl
@[simp] theorem Part.onRecord_presenters (s : Part) (i : RecId) (f : Record → Record) : (s.onRecord i f).presenters = s.presenters := rfl
@[simp] theorem Part.onRecord_channels (s : Part) (i : RecId) (f : Record → Record) : (s.onRecord i f).channels = s.channels := rfl
@[simp] theorem Part.onRecord_lines (s : Part) (i : RecId) (f : Record → Record) : (s.onRecord i f).lines = s.lines := rfl
@[simp] theorem Part.onRecord_trunkLoss (s : Part) (i : RecId) (f : Record → Record) : (s.onRecord i f).trunkLoss = s.trunkLoss := rfl
@[simp] theorem Part.onRecord_notices (s : Part) (i : RecId) (f : Record → Record) : (s.onRecord i f).notices = s.notices := rfl
@[simp] theorem Part.onRecord_noticesLost (s : Part) (i : RecId) (f : Record → Record) : (s.onRecord i f).noticesLost = s.noticesLost := rfl
@[simp] theorem Part.onRecord_draws (s : Part) (i : RecId) (f : Record → Record) : (s.onRecord i f).draws = s.draws := rfl
@[simp] theorem Part.onRecord_rundown (s : Part) (i : RecId) (f : Record → Record) (j : ProgId) : (s.onRecord i f).rundown j = s.rundown j := rfl
@[simp] theorem Part.onRecord_runner (s : Part) (i : RecId) (f : Record → Record) (j : ProgId) : (s.onRecord i f).runner j = s.runner j := rfl
@[simp] theorem Part.onRecord_firing (s : Part) (i : RecId) (f : Record → Record) (j : ProgId) : (s.onRecord i f).firing j = s.firing j := rfl
@[simp] theorem Part.onRecord_airingSet (s : Part) (i : RecId) (f : Record → Record) (j : ProgId) : (s.onRecord i f).airingSet j = s.airingSet j := rfl
@[simp] theorem Part.onRecord_timing (s : Part) (i : RecId) (f : Record → Record) (j : ProgId) : (s.onRecord i f).timing j = s.timing j := rfl
@[simp] theorem Part.onRecord_presenter (s : Part) (i : RecId) (f : Record → Record) (j : PresId) : (s.onRecord i f).presenter j = s.presenter j := rfl
@[simp] theorem Part.onRecord_channel (s : Part) (i : RecId) (f : Record → Record) (j : ChanId) : (s.onRecord i f).channel j = s.channel j := rfl
@[simp] theorem Part.onRecord_line (s : Part) (i : RecId) (f : Record → Record) (j : LineId) : (s.onRecord i f).line j = s.line j := rfl
@[simp] theorem Part.onRecord_record_self (s : Part) (i : RecId) (f : Record → Record) : (s.onRecord i f).record i = f (s.record i) :=
  Bank.at_upd_self s.store i f
theorem Part.onRecord_record_of_ne (s : Part) {i j : RecId} (f : Record → Record) (h : j ≠ i) : (s.onRecord i f).record j = s.record j :=
  Bank.at_upd_of_ne s.store f h
theorem Part.onRecord_record (s : Part) (i j : RecId) (f : Record → Record) :
    (s.onRecord i f).record j = if j = i then f (s.record i) else s.record j :=
  Bank.at_upd s.store i j f

/-! ### onRundown -/

@[simp] theorem Part.onRundown_rundowns (s : Part) (i : ProgId) (f : Rundown → Rundown) : (s.onRundown i f).rundowns = Bank.upd s.rundowns i f := rfl
@[simp] theorem Part.onRundown_port (s : Part) (i : ProgId) (f : Rundown → Rundown) : (s.onRundown i f).port = s.port := rfl
@[simp] theorem Part.onRundown_intake (s : Part) (i : ProgId) (f : Rundown → Rundown) : (s.onRundown i f).intake = s.intake := rfl
@[simp] theorem Part.onRundown_clock (s : Part) (i : ProgId) (f : Rundown → Rundown) : (s.onRundown i f).clock = s.clock := rfl
@[simp] theorem Part.onRundown_store (s : Part) (i : ProgId) (f : Rundown → Rundown) : (s.onRundown i f).store = s.store := rfl
@[simp] theorem Part.onRundown_runners (s : Part) (i : ProgId) (f : Rundown → Rundown) : (s.onRundown i f).runners = s.runners := rfl
@[simp] theorem Part.onRundown_firings (s : Part) (i : ProgId) (f : Rundown → Rundown) : (s.onRundown i f).firings = s.firings := rfl
@[simp] theorem Part.onRundown_airing (s : Part) (i : ProgId) (f : Rundown → Rundown) : (s.onRundown i f).airing = s.airing := rfl
@[simp] theorem Part.onRundown_timings (s : Part) (i : ProgId) (f : Rundown → Rundown) : (s.onRundown i f).timings = s.timings := rfl
@[simp] theorem Part.onRundown_presenters (s : Part) (i : ProgId) (f : Rundown → Rundown) : (s.onRundown i f).presenters = s.presenters := rfl
@[simp] theorem Part.onRundown_channels (s : Part) (i : ProgId) (f : Rundown → Rundown) : (s.onRundown i f).channels = s.channels := rfl
@[simp] theorem Part.onRundown_lines (s : Part) (i : ProgId) (f : Rundown → Rundown) : (s.onRundown i f).lines = s.lines := rfl
@[simp] theorem Part.onRundown_trunkLoss (s : Part) (i : ProgId) (f : Rundown → Rundown) : (s.onRundown i f).trunkLoss = s.trunkLoss := rfl
@[simp] theorem Part.onRundown_notices (s : Part) (i : ProgId) (f : Rundown → Rundown) : (s.onRundown i f).notices = s.notices := rfl
@[simp] theorem Part.onRundown_noticesLost (s : Part) (i : ProgId) (f : Rundown → Rundown) : (s.onRundown i f).noticesLost = s.noticesLost := rfl
@[simp] theorem Part.onRundown_draws (s : Part) (i : ProgId) (f : Rundown → Rundown) : (s.onRundown i f).draws = s.draws := rfl
@[simp] theorem Part.onRundown_record (s : Part) (i : ProgId) (f : Rundown → Rundown) (j : RecId) : (s.onRundown i f).record j = s.record j := rfl
@[simp] theorem Part.onRundown_runner (s : Part) (i : ProgId) (f : Rundown → Rundown) (j : ProgId) : (s.onRundown i f).runner j = s.runner j := rfl
@[simp] theorem Part.onRundown_firing (s : Part) (i : ProgId) (f : Rundown → Rundown) (j : ProgId) : (s.onRundown i f).firing j = s.firing j := rfl
@[simp] theorem Part.onRundown_airingSet (s : Part) (i : ProgId) (f : Rundown → Rundown) (j : ProgId) : (s.onRundown i f).airingSet j = s.airingSet j := rfl
@[simp] theorem Part.onRundown_timing (s : Part) (i : ProgId) (f : Rundown → Rundown) (j : ProgId) : (s.onRundown i f).timing j = s.timing j := rfl
@[simp] theorem Part.onRundown_presenter (s : Part) (i : ProgId) (f : Rundown → Rundown) (j : PresId) : (s.onRundown i f).presenter j = s.presenter j := rfl
@[simp] theorem Part.onRundown_channel (s : Part) (i : ProgId) (f : Rundown → Rundown) (j : ChanId) : (s.onRundown i f).channel j = s.channel j := rfl
@[simp] theorem Part.onRundown_line (s : Part) (i : ProgId) (f : Rundown → Rundown) (j : LineId) : (s.onRundown i f).line j = s.line j := rfl
@[simp] theorem Part.onRundown_rundown_self (s : Part) (i : ProgId) (f : Rundown → Rundown) : (s.onRundown i f).rundown i = f (s.rundown i) :=
  Bank.at_upd_self s.rundowns i f
theorem Part.onRundown_rundown_of_ne (s : Part) {i j : ProgId} (f : Rundown → Rundown) (h : j ≠ i) : (s.onRundown i f).rundown j = s.rundown j :=
  Bank.at_upd_of_ne s.rundowns f h
theorem Part.onRundown_rundown (s : Part) (i j : ProgId) (f : Rundown → Rundown) :
    (s.onRundown i f).rundown j = if j = i then f (s.rundown i) else s.rundown j :=
  Bank.at_upd s.rundowns i j f

/-! ### onRunner -/

@[simp] theorem Part.onRunner_runners (s : Part) (i : ProgId) (f : Runner → Runner) : (s.onRunner i f).runners = Bank.upd s.runners i f := rfl
@[simp] theorem Part.onRunner_port (s : Part) (i : ProgId) (f : Runner → Runner) : (s.onRunner i f).port = s.port := rfl
@[simp] theorem Part.onRunner_intake (s : Part) (i : ProgId) (f : Runner → Runner) : (s.onRunner i f).intake = s.intake := rfl
@[simp] theorem Part.onRunner_clock (s : Part) (i : ProgId) (f : Runner → Runner) : (s.onRunner i f).clock = s.clock := rfl
@[simp] theorem Part.onRunner_store (s : Part) (i : ProgId) (f : Runner → Runner) : (s.onRunner i f).store = s.store := rfl
@[simp] theorem Part.onRunner_rundowns (s : Part) (i : ProgId) (f : Runner → Runner) : (s.onRunner i f).rundowns = s.rundowns := rfl
@[simp] theorem Part.onRunner_firings (s : Part) (i : ProgId) (f : Runner → Runner) : (s.onRunner i f).firings = s.firings := rfl
@[simp] theorem Part.onRunner_airing (s : Part) (i : ProgId) (f : Runner → Runner) : (s.onRunner i f).airing = s.airing := rfl
@[simp] theorem Part.onRunner_timings (s : Part) (i : ProgId) (f : Runner → Runner) : (s.onRunner i f).timings = s.timings := rfl
@[simp] theorem Part.onRunner_presenters (s : Part) (i : ProgId) (f : Runner → Runner) : (s.onRunner i f).presenters = s.presenters := rfl
@[simp] theorem Part.onRunner_channels (s : Part) (i : ProgId) (f : Runner → Runner) : (s.onRunner i f).channels = s.channels := rfl
@[simp] theorem Part.onRunner_lines (s : Part) (i : ProgId) (f : Runner → Runner) : (s.onRunner i f).lines = s.lines := rfl
@[simp] theorem Part.onRunner_trunkLoss (s : Part) (i : ProgId) (f : Runner → Runner) : (s.onRunner i f).trunkLoss = s.trunkLoss := rfl
@[simp] theorem Part.onRunner_notices (s : Part) (i : ProgId) (f : Runner → Runner) : (s.onRunner i f).notices = s.notices := rfl
@[simp] theorem Part.onRunner_noticesLost (s : Part) (i : ProgId) (f : Runner → Runner) : (s.onRunner i f).noticesLost = s.noticesLost := rfl
@[simp] theorem Part.onRunner_draws (s : Part) (i : ProgId) (f : Runner → Runner) : (s.onRunner i f).draws = s.draws := rfl
@[simp] theorem Part.onRunner_record (s : Part) (i : ProgId) (f : Runner → Runner) (j : RecId) : (s.onRunner i f).record j = s.record j := rfl
@[simp] theorem Part.onRunner_rundown (s : Part) (i : ProgId) (f : Runner → Runner) (j : ProgId) : (s.onRunner i f).rundown j = s.rundown j := rfl
@[simp] theorem Part.onRunner_firing (s : Part) (i : ProgId) (f : Runner → Runner) (j : ProgId) : (s.onRunner i f).firing j = s.firing j := rfl
@[simp] theorem Part.onRunner_airingSet (s : Part) (i : ProgId) (f : Runner → Runner) (j : ProgId) : (s.onRunner i f).airingSet j = s.airingSet j := rfl
@[simp] theorem Part.onRunner_timing (s : Part) (i : ProgId) (f : Runner → Runner) (j : ProgId) : (s.onRunner i f).timing j = s.timing j := rfl
@[simp] theorem Part.onRunner_presenter (s : Part) (i : ProgId) (f : Runner → Runner) (j : PresId) : (s.onRunner i f).presenter j = s.presenter j := rfl
@[simp] theorem Part.onRunner_channel (s : Part) (i : ProgId) (f : Runner → Runner) (j : ChanId) : (s.onRunner i f).channel j = s.channel j := rfl
@[simp] theorem Part.onRunner_line (s : Part) (i : ProgId) (f : Runner → Runner) (j : LineId) : (s.onRunner i f).line j = s.line j := rfl
@[simp] theorem Part.onRunner_runner_self (s : Part) (i : ProgId) (f : Runner → Runner) : (s.onRunner i f).runner i = f (s.runner i) :=
  Bank.at_upd_self s.runners i f
theorem Part.onRunner_runner_of_ne (s : Part) {i j : ProgId} (f : Runner → Runner) (h : j ≠ i) : (s.onRunner i f).runner j = s.runner j :=
  Bank.at_upd_of_ne s.runners f h
theorem Part.onRunner_runner (s : Part) (i j : ProgId) (f : Runner → Runner) :
    (s.onRunner i f).runner j = if j = i then f (s.runner i) else s.runner j :=
  Bank.at_upd s.runners i j f

/-! ### onFiring -/

@[simp] theorem Part.onFiring_firings (s : Part) (i : ProgId) (f : Firing → Firing) : (s.onFiring i f).firings = Bank.upd s.firings i f := rfl
@[simp] theorem Part.onFiring_port (s : Part) (i : ProgId) (f : Firing → Firing) : (s.onFiring i f).port = s.port := rfl
@[simp] theorem Part.onFiring_intake (s : Part) (i : ProgId) (f : Firing → Firing) : (s.onFiring i f).intake = s.intake := rfl
@[simp] theorem Part.onFiring_clock (s : Part) (i : ProgId) (f : Firing → Firing) : (s.onFiring i f).clock = s.clock := rfl
@[simp] theorem Part.onFiring_store (s : Part) (i : ProgId) (f : Firing → Firing) : (s.onFiring i f).store = s.store := rfl
@[simp] theorem Part.onFiring_rundowns (s : Part) (i : ProgId) (f : Firing → Firing) : (s.onFiring i f).rundowns = s.rundowns := rfl
@[simp] theorem Part.onFiring_runners (s : Part) (i : ProgId) (f : Firing → Firing) : (s.onFiring i f).runners = s.runners := rfl
@[simp] theorem Part.onFiring_airing (s : Part) (i : ProgId) (f : Firing → Firing) : (s.onFiring i f).airing = s.airing := rfl
@[simp] theorem Part.onFiring_timings (s : Part) (i : ProgId) (f : Firing → Firing) : (s.onFiring i f).timings = s.timings := rfl
@[simp] theorem Part.onFiring_presenters (s : Part) (i : ProgId) (f : Firing → Firing) : (s.onFiring i f).presenters = s.presenters := rfl
@[simp] theorem Part.onFiring_channels (s : Part) (i : ProgId) (f : Firing → Firing) : (s.onFiring i f).channels = s.channels := rfl
@[simp] theorem Part.onFiring_lines (s : Part) (i : ProgId) (f : Firing → Firing) : (s.onFiring i f).lines = s.lines := rfl
@[simp] theorem Part.onFiring_trunkLoss (s : Part) (i : ProgId) (f : Firing → Firing) : (s.onFiring i f).trunkLoss = s.trunkLoss := rfl
@[simp] theorem Part.onFiring_notices (s : Part) (i : ProgId) (f : Firing → Firing) : (s.onFiring i f).notices = s.notices := rfl
@[simp] theorem Part.onFiring_noticesLost (s : Part) (i : ProgId) (f : Firing → Firing) : (s.onFiring i f).noticesLost = s.noticesLost := rfl
@[simp] theorem Part.onFiring_draws (s : Part) (i : ProgId) (f : Firing → Firing) : (s.onFiring i f).draws = s.draws := rfl
@[simp] theorem Part.onFiring_record (s : Part) (i : ProgId) (f : Firing → Firing) (j : RecId) : (s.onFiring i f).record j = s.record j := rfl
@[simp] theorem Part.onFiring_rundown (s : Part) (i : ProgId) (f : Firing → Firing) (j : ProgId) : (s.onFiring i f).rundown j = s.rundown j := rfl
@[simp] theorem Part.onFiring_runner (s : Part) (i : ProgId) (f : Firing → Firing) (j : ProgId) : (s.onFiring i f).runner j = s.runner j := rfl
@[simp] theorem Part.onFiring_airingSet (s : Part) (i : ProgId) (f : Firing → Firing) (j : ProgId) : (s.onFiring i f).airingSet j = s.airingSet j := rfl
@[simp] theorem Part.onFiring_timing (s : Part) (i : ProgId) (f : Firing → Firing) (j : ProgId) : (s.onFiring i f).timing j = s.timing j := rfl
@[simp] theorem Part.onFiring_presenter (s : Part) (i : ProgId) (f : Firing → Firing) (j : PresId) : (s.onFiring i f).presenter j = s.presenter j := rfl
@[simp] theorem Part.onFiring_channel (s : Part) (i : ProgId) (f : Firing → Firing) (j : ChanId) : (s.onFiring i f).channel j = s.channel j := rfl
@[simp] theorem Part.onFiring_line (s : Part) (i : ProgId) (f : Firing → Firing) (j : LineId) : (s.onFiring i f).line j = s.line j := rfl
@[simp] theorem Part.onFiring_firing_self (s : Part) (i : ProgId) (f : Firing → Firing) : (s.onFiring i f).firing i = f (s.firing i) :=
  Bank.at_upd_self s.firings i f
theorem Part.onFiring_firing_of_ne (s : Part) {i j : ProgId} (f : Firing → Firing) (h : j ≠ i) : (s.onFiring i f).firing j = s.firing j :=
  Bank.at_upd_of_ne s.firings f h
theorem Part.onFiring_firing (s : Part) (i j : ProgId) (f : Firing → Firing) :
    (s.onFiring i f).firing j = if j = i then f (s.firing i) else s.firing j :=
  Bank.at_upd s.firings i j f

/-! ### onAiring -/

@[simp] theorem Part.onAiring_airing (s : Part) (i : ProgId) (f : List ChanId → List ChanId) : (s.onAiring i f).airing = Bank.upd s.airing i f := rfl
@[simp] theorem Part.onAiring_port (s : Part) (i : ProgId) (f : List ChanId → List ChanId) : (s.onAiring i f).port = s.port := rfl
@[simp] theorem Part.onAiring_intake (s : Part) (i : ProgId) (f : List ChanId → List ChanId) : (s.onAiring i f).intake = s.intake := rfl
@[simp] theorem Part.onAiring_clock (s : Part) (i : ProgId) (f : List ChanId → List ChanId) : (s.onAiring i f).clock = s.clock := rfl
@[simp] theorem Part.onAiring_store (s : Part) (i : ProgId) (f : List ChanId → List ChanId) : (s.onAiring i f).store = s.store := rfl
@[simp] theorem Part.onAiring_rundowns (s : Part) (i : ProgId) (f : List ChanId → List ChanId) : (s.onAiring i f).rundowns = s.rundowns := rfl
@[simp] theorem Part.onAiring_runners (s : Part) (i : ProgId) (f : List ChanId → List ChanId) : (s.onAiring i f).runners = s.runners := rfl
@[simp] theorem Part.onAiring_firings (s : Part) (i : ProgId) (f : List ChanId → List ChanId) : (s.onAiring i f).firings = s.firings := rfl
@[simp] theorem Part.onAiring_timings (s : Part) (i : ProgId) (f : List ChanId → List ChanId) : (s.onAiring i f).timings = s.timings := rfl
@[simp] theorem Part.onAiring_presenters (s : Part) (i : ProgId) (f : List ChanId → List ChanId) : (s.onAiring i f).presenters = s.presenters := rfl
@[simp] theorem Part.onAiring_channels (s : Part) (i : ProgId) (f : List ChanId → List ChanId) : (s.onAiring i f).channels = s.channels := rfl
@[simp] theorem Part.onAiring_lines (s : Part) (i : ProgId) (f : List ChanId → List ChanId) : (s.onAiring i f).lines = s.lines := rfl
@[simp] theorem Part.onAiring_trunkLoss (s : Part) (i : ProgId) (f : List ChanId → List ChanId) : (s.onAiring i f).trunkLoss = s.trunkLoss := rfl
@[simp] theorem Part.onAiring_notices (s : Part) (i : ProgId) (f : List ChanId → List ChanId) : (s.onAiring i f).notices = s.notices := rfl
@[simp] theorem Part.onAiring_noticesLost (s : Part) (i : ProgId) (f : List ChanId → List ChanId) : (s.onAiring i f).noticesLost = s.noticesLost := rfl
@[simp] theorem Part.onAiring_draws (s : Part) (i : ProgId) (f : List ChanId → List ChanId) : (s.onAiring i f).draws = s.draws := rfl
@[simp] theorem Part.onAiring_record (s : Part) (i : ProgId) (f : List ChanId → List ChanId) (j : RecId) : (s.onAiring i f).record j = s.record j := rfl
@[simp] theorem Part.onAiring_rundown (s : Part) (i : ProgId) (f : List ChanId → List ChanId) (j : ProgId) : (s.onAiring i f).rundown j = s.rundown j := rfl
@[simp] theorem Part.onAiring_runner (s : Part) (i : ProgId) (f : List ChanId → List ChanId) (j : ProgId) : (s.onAiring i f).runner j = s.runner j := rfl
@[simp] theorem Part.onAiring_firing (s : Part) (i : ProgId) (f : List ChanId → List ChanId) (j : ProgId) : (s.onAiring i f).firing j = s.firing j := rfl
@[simp] theorem Part.onAiring_timing (s : Part) (i : ProgId) (f : List ChanId → List ChanId) (j : ProgId) : (s.onAiring i f).timing j = s.timing j := rfl
@[simp] theorem Part.onAiring_presenter (s : Part) (i : ProgId) (f : List ChanId → List ChanId) (j : PresId) : (s.onAiring i f).presenter j = s.presenter j := rfl
@[simp] theorem Part.onAiring_channel (s : Part) (i : ProgId) (f : List ChanId → List ChanId) (j : ChanId) : (s.onAiring i f).channel j = s.channel j := rfl
@[simp] theorem Part.onAiring_line (s : Part) (i : ProgId) (f : List ChanId → List ChanId) (j : LineId) : (s.onAiring i f).line j = s.line j := rfl
@[simp] theorem Part.onAiring_airingSet_self (s : Part) (i : ProgId) (f : List ChanId → List ChanId) : (s.onAiring i f).airingSet i = f (s.airingSet i) :=
  Bank.at_upd_self s.airing i f
theorem Part.onAiring_airingSet_of_ne (s : Part) {i j : ProgId} (f : List ChanId → List ChanId) (h : j ≠ i) : (s.onAiring i f).airingSet j = s.airingSet j :=
  Bank.at_upd_of_ne s.airing f h
theorem Part.onAiring_airingSet (s : Part) (i j : ProgId) (f : List ChanId → List ChanId) :
    (s.onAiring i f).airingSet j = if j = i then f (s.airingSet i) else s.airingSet j :=
  Bank.at_upd s.airing i j f

/-! ### onTiming -/

@[simp] theorem Part.onTiming_timings (s : Part) (i : ProgId) (f : Timing → Timing) : (s.onTiming i f).timings = Bank.upd s.timings i f := rfl
@[simp] theorem Part.onTiming_port (s : Part) (i : ProgId) (f : Timing → Timing) : (s.onTiming i f).port = s.port := rfl
@[simp] theorem Part.onTiming_intake (s : Part) (i : ProgId) (f : Timing → Timing) : (s.onTiming i f).intake = s.intake := rfl
@[simp] theorem Part.onTiming_clock (s : Part) (i : ProgId) (f : Timing → Timing) : (s.onTiming i f).clock = s.clock := rfl
@[simp] theorem Part.onTiming_store (s : Part) (i : ProgId) (f : Timing → Timing) : (s.onTiming i f).store = s.store := rfl
@[simp] theorem Part.onTiming_rundowns (s : Part) (i : ProgId) (f : Timing → Timing) : (s.onTiming i f).rundowns = s.rundowns := rfl
@[simp] theorem Part.onTiming_runners (s : Part) (i : ProgId) (f : Timing → Timing) : (s.onTiming i f).runners = s.runners := rfl
@[simp] theorem Part.onTiming_firings (s : Part) (i : ProgId) (f : Timing → Timing) : (s.onTiming i f).firings = s.firings := rfl
@[simp] theorem Part.onTiming_airing (s : Part) (i : ProgId) (f : Timing → Timing) : (s.onTiming i f).airing = s.airing := rfl
@[simp] theorem Part.onTiming_presenters (s : Part) (i : ProgId) (f : Timing → Timing) : (s.onTiming i f).presenters = s.presenters := rfl
@[simp] theorem Part.onTiming_channels (s : Part) (i : ProgId) (f : Timing → Timing) : (s.onTiming i f).channels = s.channels := rfl
@[simp] theorem Part.onTiming_lines (s : Part) (i : ProgId) (f : Timing → Timing) : (s.onTiming i f).lines = s.lines := rfl
@[simp] theorem Part.onTiming_trunkLoss (s : Part) (i : ProgId) (f : Timing → Timing) : (s.onTiming i f).trunkLoss = s.trunkLoss := rfl
@[simp] theorem Part.onTiming_notices (s : Part) (i : ProgId) (f : Timing → Timing) : (s.onTiming i f).notices = s.notices := rfl
@[simp] theorem Part.onTiming_noticesLost (s : Part) (i : ProgId) (f : Timing → Timing) : (s.onTiming i f).noticesLost = s.noticesLost := rfl
@[simp] theorem Part.onTiming_draws (s : Part) (i : ProgId) (f : Timing → Timing) : (s.onTiming i f).draws = s.draws := rfl
@[simp] theorem Part.onTiming_record (s : Part) (i : ProgId) (f : Timing → Timing) (j : RecId) : (s.onTiming i f).record j = s.record j := rfl
@[simp] theorem Part.onTiming_rundown (s : Part) (i : ProgId) (f : Timing → Timing) (j : ProgId) : (s.onTiming i f).rundown j = s.rundown j := rfl
@[simp] theorem Part.onTiming_runner (s : Part) (i : ProgId) (f : Timing → Timing) (j : ProgId) : (s.onTiming i f).runner j = s.runner j := rfl
@[simp] theorem Part.onTiming_firing (s : Part) (i : ProgId) (f : Timing → Timing) (j : ProgId) : (s.onTiming i f).firing j = s.firing j := rfl
@[simp] theorem Part.onTiming_airingSet (s : Part) (i : ProgId) (f : Timing → Timing) (j : ProgId) : (s.onTiming i f).airingSet j = s.airingSet j := rfl
@[simp] theorem Part.onTiming_presenter (s : Part) (i : ProgId) (f : Timing → Timing) (j : PresId) : (s.onTiming i f).presenter j = s.presenter j := rfl
@[simp] theorem Part.onTiming_channel (s : Part) (i : ProgId) (f : Timing → Timing) (j : ChanId) : (s.onTiming i f).channel j = s.channel j := rfl
@[simp] theorem Part.onTiming_line (s : Part) (i : ProgId) (f : Timing → Timing) (j : LineId) : (s.onTiming i f).line j = s.line j := rfl
@[simp] theorem Part.onTiming_timing_self (s : Part) (i : ProgId) (f : Timing → Timing) : (s.onTiming i f).timing i = f (s.timing i) :=
  Bank.at_upd_self s.timings i f
theorem Part.onTiming_timing_of_ne (s : Part) {i j : ProgId} (f : Timing → Timing) (h : j ≠ i) : (s.onTiming i f).timing j = s.timing j :=
  Bank.at_upd_of_ne s.timings f h
theorem Part.onTiming_timing (s : Part) (i j : ProgId) (f : Timing → Timing) :
    (s.onTiming i f).timing j = if j = i then f (s.timing i) else s.timing j :=
  Bank.at_upd s.timings i j f

/-! ### onPresenter -/

@[simp] theorem Part.onPresenter_presenters (s : Part) (i : PresId) (f : Presenter → Presenter) : (s.onPresenter i f).presenters = Bank.upd s.presenters i f := rfl
@[simp] theorem Part.onPresenter_port (s : Part) (i : PresId) (f : Presenter → Presenter) : (s.onPresenter i f).port = s.port := rfl
@[simp] theorem Part.onPresenter_intake (s : Part) (i : PresId) (f : Presenter → Presenter) : (s.onPresenter i f).intake = s.intake := rfl
@[simp] theorem Part.onPresenter_clock (s : Part) (i : PresId) (f : Presenter → Presenter) : (s.onPresenter i f).clock = s.clock := rfl
@[simp] theorem Part.onPresenter_store (s : Part) (i : PresId) (f : Presenter → Presenter) : (s.onPresenter i f).store = s.store := rfl
@[simp] theorem Part.onPresenter_rundowns (s : Part) (i : PresId) (f : Presenter → Presenter) : (s.onPresenter i f).rundowns = s.rundowns := rfl
@[simp] theorem Part.onPresenter_runners (s : Part) (i : PresId) (f : Presenter → Presenter) : (s.onPresenter i f).runners = s.runners := rfl
@[simp] theorem Part.onPresenter_firings (s : Part) (i : PresId) (f : Presenter → Presenter) : (s.onPresenter i f).firings = s.firings := rfl
@[simp] theorem Part.onPresenter_airing (s : Part) (i : PresId) (f : Presenter → Presenter) : (s.onPresenter i f).airing = s.airing := rfl
@[simp] theorem Part.onPresenter_timings (s : Part) (i : PresId) (f : Presenter → Presenter) : (s.onPresenter i f).timings = s.timings := rfl
@[simp] theorem Part.onPresenter_channels (s : Part) (i : PresId) (f : Presenter → Presenter) : (s.onPresenter i f).channels = s.channels := rfl
@[simp] theorem Part.onPresenter_lines (s : Part) (i : PresId) (f : Presenter → Presenter) : (s.onPresenter i f).lines = s.lines := rfl
@[simp] theorem Part.onPresenter_trunkLoss (s : Part) (i : PresId) (f : Presenter → Presenter) : (s.onPresenter i f).trunkLoss = s.trunkLoss := rfl
@[simp] theorem Part.onPresenter_notices (s : Part) (i : PresId) (f : Presenter → Presenter) : (s.onPresenter i f).notices = s.notices := rfl
@[simp] theorem Part.onPresenter_noticesLost (s : Part) (i : PresId) (f : Presenter → Presenter) : (s.onPresenter i f).noticesLost = s.noticesLost := rfl
@[simp] theorem Part.onPresenter_draws (s : Part) (i : PresId) (f : Presenter → Presenter) : (s.onPresenter i f).draws = s.draws := rfl
@[simp] theorem Part.onPresenter_record (s : Part) (i : PresId) (f : Presenter → Presenter) (j : RecId) : (s.onPresenter i f).record j = s.record j := rfl
@[simp] theorem Part.onPresenter_rundown (s : Part) (i : PresId) (f : Presenter → Presenter) (j : ProgId) : (s.onPresenter i f).rundown j = s.rundown j := rfl
@[simp] theorem Part.onPresenter_runner (s : Part) (i : PresId) (f : Presenter → Presenter) (j : ProgId) : (s.onPresenter i f).runner j = s.runner j := rfl
@[simp] theorem Part.onPresenter_firing (s : Part) (i : PresId) (f : Presenter → Presenter) (j : ProgId) : (s.onPresenter i f).firing j = s.firing j := rfl
@[simp] theorem Part.onPresenter_airingSet (s : Part) (i : PresId) (f : Presenter → Presenter) (j : ProgId) : (s.onPresenter i f).airingSet j = s.airingSet j := rfl
@[simp] theorem Part.onPresenter_timing (s : Part) (i : PresId) (f : Presenter → Presenter) (j : ProgId) : (s.onPresenter i f).timing j = s.timing j := rfl
@[simp] theorem Part.onPresenter_channel (s : Part) (i : PresId) (f : Presenter → Presenter) (j : ChanId) : (s.onPresenter i f).channel j = s.channel j := rfl
@[simp] theorem Part.onPresenter_line (s : Part) (i : PresId) (f : Presenter → Presenter) (j : LineId) : (s.onPresenter i f).line j = s.line j := rfl
@[simp] theorem Part.onPresenter_presenter_self (s : Part) (i : PresId) (f : Presenter → Presenter) : (s.onPresenter i f).presenter i = f (s.presenter i) :=
  Bank.at_upd_self s.presenters i f
theorem Part.onPresenter_presenter_of_ne (s : Part) {i j : PresId} (f : Presenter → Presenter) (h : j ≠ i) : (s.onPresenter i f).presenter j = s.presenter j :=
  Bank.at_upd_of_ne s.presenters f h
theorem Part.onPresenter_presenter (s : Part) (i j : PresId) (f : Presenter → Presenter) :
    (s.onPresenter i f).presenter j = if j = i then f (s.presenter i) else s.presenter j :=
  Bank.at_upd s.presenters i j f

/-! ### onChannel -/

@[simp] theorem Part.onChannel_channels (s : Part) (i : ChanId) (f : Channel → Channel) : (s.onChannel i f).channels = Bank.upd s.channels i f := rfl
@[simp] theorem Part.onChannel_port (s : Part) (i : ChanId) (f : Channel → Channel) : (s.onChannel i f).port = s.port := rfl
@[simp] theorem Part.onChannel_intake (s : Part) (i : ChanId) (f : Channel → Channel) : (s.onChannel i f).intake = s.intake := rfl
@[simp] theorem Part.onChannel_clock (s : Part) (i : ChanId) (f : Channel → Channel) : (s.onChannel i f).clock = s.clock := rfl
@[simp] theorem Part.onChannel_store (s : Part) (i : ChanId) (f : Channel → Channel) : (s.onChannel i f).store = s.store := rfl
@[simp] theorem Part.onChannel_rundowns (s : Part) (i : ChanId) (f : Channel → Channel) : (s.onChannel i f).rundowns = s.rundowns := rfl
@[simp] theorem Part.onChannel_runners (s : Part) (i : ChanId) (f : Channel → Channel) : (s.onChannel i f).runners = s.runners := rfl
@[simp] theorem Part.onChannel_firings (s : Part) (i : ChanId) (f : Channel → Channel) : (s.onChannel i f).firings = s.firings := rfl
@[simp] theorem Part.onChannel_airing (s : Part) (i : ChanId) (f : Channel → Channel) : (s.onChannel i f).airing = s.airing := rfl
@[simp] theorem Part.onChannel_timings (s : Part) (i : ChanId) (f : Channel → Channel) : (s.onChannel i f).timings = s.timings := rfl
@[simp] theorem Part.onChannel_presenters (s : Part) (i : ChanId) (f : Channel → Channel) : (s.onChannel i f).presenters = s.presenters := rfl
@[simp] theorem Part.onChannel_lines (s : Part) (i : ChanId) (f : Channel → Channel) : (s.onChannel i f).lines = s.lines := rfl
@[simp] theorem Part.onChannel_trunkLoss (s : Part) (i : ChanId) (f : Channel → Channel) : (s.onChannel i f).trunkLoss = s.trunkLoss := rfl
@[simp] theorem Part.onChannel_notices (s : Part) (i : ChanId) (f : Channel → Channel) : (s.onChannel i f).notices = s.notices := rfl
@[simp] theorem Part.onChannel_noticesLost (s : Part) (i : ChanId) (f : Channel → Channel) : (s.onChannel i f).noticesLost = s.noticesLost := rfl
@[simp] theorem Part.onChannel_draws (s : Part) (i : ChanId) (f : Channel → Channel) : (s.onChannel i f).draws = s.draws := rfl
@[simp] theorem Part.onChannel_record (s : Part) (i : ChanId) (f : Channel → Channel) (j : RecId) : (s.onChannel i f).record j = s.record j := rfl
@[simp] theorem Part.onChannel_rundown (s : Part) (i : ChanId) (f : Channel → Channel) (j : ProgId) : (s.onChannel i f).rundown j = s.rundown j := rfl
@[simp] theorem Part.onChannel_runner (s : Part) (i : ChanId) (f : Channel → Channel) (j : ProgId) : (s.onChannel i f).runner j = s.runner j := rfl
@[simp] theorem Part.onChannel_firing (s : Part) (i : ChanId) (f : Channel → Channel) (j : ProgId) : (s.onChannel i f).firing j = s.firing j := rfl
@[simp] theorem Part.onChannel_airingSet (s : Part) (i : ChanId) (f : Channel → Channel) (j : ProgId) : (s.onChannel i f).airingSet j = s.airingSet j := rfl
@[simp] theorem Part.onChannel_timing (s : Part) (i : ChanId) (f : Channel → Channel) (j : ProgId) : (s.onChannel i f).timing j = s.timing j := rfl
@[simp] theorem Part.onChannel_presenter (s : Part) (i : ChanId) (f : Channel → Channel) (j : PresId) : (s.onChannel i f).presenter j = s.presenter j := rfl
@[simp] theorem Part.onChannel_line (s : Part) (i : ChanId) (f : Channel → Channel) (j : LineId) : (s.onChannel i f).line j = s.line j := rfl
@[simp] theorem Part.onChannel_channel_self (s : Part) (i : ChanId) (f : Channel → Channel) : (s.onChannel i f).channel i = f (s.channel i) :=
  Bank.at_upd_self s.channels i f
theorem Part.onChannel_channel_of_ne (s : Part) {i j : ChanId} (f : Channel → Channel) (h : j ≠ i) : (s.onChannel i f).channel j = s.channel j :=
  Bank.at_upd_of_ne s.channels f h
theorem Part.onChannel_channel (s : Part) (i j : ChanId) (f : Channel → Channel) :
    (s.onChannel i f).channel j = if j = i then f (s.channel i) else s.channel j :=
  Bank.at_upd s.channels i j f

/-! ### onLine -/

@[simp] theorem Part.onLine_lines (s : Part) (i : LineId) (f : Line → Line) : (s.onLine i f).lines = Bank.upd s.lines i f := rfl
@[simp] theorem Part.onLine_port (s : Part) (i : LineId) (f : Line → Line) : (s.onLine i f).port = s.port := rfl
@[simp] theorem Part.onLine_intake (s : Part) (i : LineId) (f : Line → Line) : (s.onLine i f).intake = s.intake := rfl
@[simp] theorem Part.onLine_clock (s : Part) (i : LineId) (f : Line → Line) : (s.onLine i f).clock = s.clock := rfl
@[simp] theorem Part.onLine_store (s : Part) (i : LineId) (f : Line → Line) : (s.onLine i f).store = s.store := rfl
@[simp] theorem Part.onLine_rundowns (s : Part) (i : LineId) (f : Line → Line) : (s.onLine i f).rundowns = s.rundowns := rfl
@[simp] theorem Part.onLine_runners (s : Part) (i : LineId) (f : Line → Line) : (s.onLine i f).runners = s.runners := rfl
@[simp] theorem Part.onLine_firings (s : Part) (i : LineId) (f : Line → Line) : (s.onLine i f).firings = s.firings := rfl
@[simp] theorem Part.onLine_airing (s : Part) (i : LineId) (f : Line → Line) : (s.onLine i f).airing = s.airing := rfl
@[simp] theorem Part.onLine_timings (s : Part) (i : LineId) (f : Line → Line) : (s.onLine i f).timings = s.timings := rfl
@[simp] theorem Part.onLine_presenters (s : Part) (i : LineId) (f : Line → Line) : (s.onLine i f).presenters = s.presenters := rfl
@[simp] theorem Part.onLine_channels (s : Part) (i : LineId) (f : Line → Line) : (s.onLine i f).channels = s.channels := rfl
@[simp] theorem Part.onLine_trunkLoss (s : Part) (i : LineId) (f : Line → Line) : (s.onLine i f).trunkLoss = s.trunkLoss := rfl
@[simp] theorem Part.onLine_notices (s : Part) (i : LineId) (f : Line → Line) : (s.onLine i f).notices = s.notices := rfl
@[simp] theorem Part.onLine_noticesLost (s : Part) (i : LineId) (f : Line → Line) : (s.onLine i f).noticesLost = s.noticesLost := rfl
@[simp] theorem Part.onLine_draws (s : Part) (i : LineId) (f : Line → Line) : (s.onLine i f).draws = s.draws := rfl
@[simp] theorem Part.onLine_record (s : Part) (i : LineId) (f : Line → Line) (j : RecId) : (s.onLine i f).record j = s.record j := rfl
@[simp] theorem Part.onLine_rundown (s : Part) (i : LineId) (f : Line → Line) (j : ProgId) : (s.onLine i f).rundown j = s.rundown j := rfl
@[simp] theorem Part.onLine_runner (s : Part) (i : LineId) (f : Line → Line) (j : ProgId) : (s.onLine i f).runner j = s.runner j := rfl
@[simp] theorem Part.onLine_firing (s : Part) (i : LineId) (f : Line → Line) (j : ProgId) : (s.onLine i f).firing j = s.firing j := rfl
@[simp] theorem Part.onLine_airingSet (s : Part) (i : LineId) (f : Line → Line) (j : ProgId) : (s.onLine i f).airingSet j = s.airingSet j := rfl
@[simp] theorem Part.onLine_timing (s : Part) (i : LineId) (f : Line → Line) (j : ProgId) : (s.onLine i f).timing j = s.timing j := rfl
@[simp] theorem Part.onLine_presenter (s : Part) (i : LineId) (f : Line → Line) (j : PresId) : (s.onLine i f).presenter j = s.presenter j := rfl
@[simp] theorem Part.onLine_channel (s : Part) (i : LineId) (f : Line → Line) (j : ChanId) : (s.onLine i f).channel j = s.channel j := rfl
@[simp] theorem Part.onLine_line_self (s : Part) (i : LineId) (f : Line → Line) : (s.onLine i f).line i = f (s.line i) :=
  Bank.at_upd_self s.lines i f
theorem Part.onLine_line_of_ne (s : Part) {i j : LineId} (f : Line → Line) (h : j ≠ i) : (s.onLine i f).line j = s.line j :=
  Bank.at_upd_of_ne s.lines f h
theorem Part.onLine_line (s : Part) (i j : LineId) (f : Line → Line) :
    (s.onLine i f).line j = if j = i then f (s.line i) else s.line j :=
  Bank.at_upd s.lines i j f

/-! ### The plain fields -/

@[simp] theorem Part.setTrunkLoss_port (s : Part) (v : TrunkLoss) : (s.setTrunkLoss v).port = s.port := rfl
@[simp] theorem Part.setTrunkLoss_intake (s : Part) (v : TrunkLoss) : (s.setTrunkLoss v).intake = s.intake := rfl
@[simp] theorem Part.setTrunkLoss_clock (s : Part) (v : TrunkLoss) : (s.setTrunkLoss v).clock = s.clock := rfl
@[simp] theorem Part.setTrunkLoss_store (s : Part) (v : TrunkLoss) : (s.setTrunkLoss v).store = s.store := rfl
@[simp] theorem Part.setTrunkLoss_rundowns (s : Part) (v : TrunkLoss) : (s.setTrunkLoss v).rundowns = s.rundowns := rfl
@[simp] theorem Part.setTrunkLoss_runners (s : Part) (v : TrunkLoss) : (s.setTrunkLoss v).runners = s.runners := rfl
@[simp] theorem Part.setTrunkLoss_firings (s : Part) (v : TrunkLoss) : (s.setTrunkLoss v).firings = s.firings := rfl
@[simp] theorem Part.setTrunkLoss_airing (s : Part) (v : TrunkLoss) : (s.setTrunkLoss v).airing = s.airing := rfl
@[simp] theorem Part.setTrunkLoss_timings (s : Part) (v : TrunkLoss) : (s.setTrunkLoss v).timings = s.timings := rfl
@[simp] theorem Part.setTrunkLoss_presenters (s : Part) (v : TrunkLoss) : (s.setTrunkLoss v).presenters = s.presenters := rfl
@[simp] theorem Part.setTrunkLoss_channels (s : Part) (v : TrunkLoss) : (s.setTrunkLoss v).channels = s.channels := rfl
@[simp] theorem Part.setTrunkLoss_lines (s : Part) (v : TrunkLoss) : (s.setTrunkLoss v).lines = s.lines := rfl
@[simp] theorem Part.setTrunkLoss_trunkLoss (s : Part) (v : TrunkLoss) : (s.setTrunkLoss v).trunkLoss = v := rfl
@[simp] theorem Part.setTrunkLoss_notices (s : Part) (v : TrunkLoss) : (s.setTrunkLoss v).notices = s.notices := rfl
@[simp] theorem Part.setTrunkLoss_noticesLost (s : Part) (v : TrunkLoss) : (s.setTrunkLoss v).noticesLost = s.noticesLost := rfl
@[simp] theorem Part.setTrunkLoss_draws (s : Part) (v : TrunkLoss) : (s.setTrunkLoss v).draws = s.draws := rfl
@[simp] theorem Part.setTrunkLoss_record (s : Part) (v : TrunkLoss) (i : RecId) : (s.setTrunkLoss v).record i = s.record i := rfl
@[simp] theorem Part.setTrunkLoss_rundown (s : Part) (v : TrunkLoss) (i : ProgId) : (s.setTrunkLoss v).rundown i = s.rundown i := rfl
@[simp] theorem Part.setTrunkLoss_runner (s : Part) (v : TrunkLoss) (i : ProgId) : (s.setTrunkLoss v).runner i = s.runner i := rfl
@[simp] theorem Part.setTrunkLoss_firing (s : Part) (v : TrunkLoss) (i : ProgId) : (s.setTrunkLoss v).firing i = s.firing i := rfl
@[simp] theorem Part.setTrunkLoss_airingSet (s : Part) (v : TrunkLoss) (i : ProgId) : (s.setTrunkLoss v).airingSet i = s.airingSet i := rfl
@[simp] theorem Part.setTrunkLoss_timing (s : Part) (v : TrunkLoss) (i : ProgId) : (s.setTrunkLoss v).timing i = s.timing i := rfl
@[simp] theorem Part.setTrunkLoss_presenter (s : Part) (v : TrunkLoss) (i : PresId) : (s.setTrunkLoss v).presenter i = s.presenter i := rfl
@[simp] theorem Part.setTrunkLoss_channel (s : Part) (v : TrunkLoss) (i : ChanId) : (s.setTrunkLoss v).channel i = s.channel i := rfl
@[simp] theorem Part.setTrunkLoss_line (s : Part) (v : TrunkLoss) (i : LineId) : (s.setTrunkLoss v).line i = s.line i := rfl

@[simp] theorem Part.setNotices_port (s : Part) (q : List Notice) (b : Bool) : (s.setNotices q b).port = s.port := rfl
@[simp] theorem Part.setNotices_intake (s : Part) (q : List Notice) (b : Bool) : (s.setNotices q b).intake = s.intake := rfl
@[simp] theorem Part.setNotices_clock (s : Part) (q : List Notice) (b : Bool) : (s.setNotices q b).clock = s.clock := rfl
@[simp] theorem Part.setNotices_store (s : Part) (q : List Notice) (b : Bool) : (s.setNotices q b).store = s.store := rfl
@[simp] theorem Part.setNotices_rundowns (s : Part) (q : List Notice) (b : Bool) : (s.setNotices q b).rundowns = s.rundowns := rfl
@[simp] theorem Part.setNotices_runners (s : Part) (q : List Notice) (b : Bool) : (s.setNotices q b).runners = s.runners := rfl
@[simp] theorem Part.setNotices_firings (s : Part) (q : List Notice) (b : Bool) : (s.setNotices q b).firings = s.firings := rfl
@[simp] theorem Part.setNotices_airing (s : Part) (q : List Notice) (b : Bool) : (s.setNotices q b).airing = s.airing := rfl
@[simp] theorem Part.setNotices_timings (s : Part) (q : List Notice) (b : Bool) : (s.setNotices q b).timings = s.timings := rfl
@[simp] theorem Part.setNotices_presenters (s : Part) (q : List Notice) (b : Bool) : (s.setNotices q b).presenters = s.presenters := rfl
@[simp] theorem Part.setNotices_channels (s : Part) (q : List Notice) (b : Bool) : (s.setNotices q b).channels = s.channels := rfl
@[simp] theorem Part.setNotices_lines (s : Part) (q : List Notice) (b : Bool) : (s.setNotices q b).lines = s.lines := rfl
@[simp] theorem Part.setNotices_trunkLoss (s : Part) (q : List Notice) (b : Bool) : (s.setNotices q b).trunkLoss = s.trunkLoss := rfl
@[simp] theorem Part.setNotices_notices (s : Part) (q : List Notice) (b : Bool) : (s.setNotices q b).notices = q := rfl
@[simp] theorem Part.setNotices_noticesLost (s : Part) (q : List Notice) (b : Bool) : (s.setNotices q b).noticesLost = b := rfl
@[simp] theorem Part.setNotices_draws (s : Part) (q : List Notice) (b : Bool) : (s.setNotices q b).draws = s.draws := rfl
@[simp] theorem Part.setNotices_record (s : Part) (q : List Notice) (b : Bool) (i : RecId) : (s.setNotices q b).record i = s.record i := rfl
@[simp] theorem Part.setNotices_rundown (s : Part) (q : List Notice) (b : Bool) (i : ProgId) : (s.setNotices q b).rundown i = s.rundown i := rfl
@[simp] theorem Part.setNotices_runner (s : Part) (q : List Notice) (b : Bool) (i : ProgId) : (s.setNotices q b).runner i = s.runner i := rfl
@[simp] theorem Part.setNotices_firing (s : Part) (q : List Notice) (b : Bool) (i : ProgId) : (s.setNotices q b).firing i = s.firing i := rfl
@[simp] theorem Part.setNotices_airingSet (s : Part) (q : List Notice) (b : Bool) (i : ProgId) : (s.setNotices q b).airingSet i = s.airingSet i := rfl
@[simp] theorem Part.setNotices_timing (s : Part) (q : List Notice) (b : Bool) (i : ProgId) : (s.setNotices q b).timing i = s.timing i := rfl
@[simp] theorem Part.setNotices_presenter (s : Part) (q : List Notice) (b : Bool) (i : PresId) : (s.setNotices q b).presenter i = s.presenter i := rfl
@[simp] theorem Part.setNotices_channel (s : Part) (q : List Notice) (b : Bool) (i : ChanId) : (s.setNotices q b).channel i = s.channel i := rfl
@[simp] theorem Part.setNotices_line (s : Part) (q : List Notice) (b : Bool) (i : LineId) : (s.setNotices q b).line i = s.line i := rfl

@[simp] theorem Part.addDraw_port (s : Part) : (s.addDraw).port = s.port := rfl
@[simp] theorem Part.addDraw_intake (s : Part) : (s.addDraw).intake = s.intake := rfl
@[simp] theorem Part.addDraw_clock (s : Part) : (s.addDraw).clock = s.clock := rfl
@[simp] theorem Part.addDraw_store (s : Part) : (s.addDraw).store = s.store := rfl
@[simp] theorem Part.addDraw_rundowns (s : Part) : (s.addDraw).rundowns = s.rundowns := rfl
@[simp] theorem Part.addDraw_runners (s : Part) : (s.addDraw).runners = s.runners := rfl
@[simp] theorem Part.addDraw_firings (s : Part) : (s.addDraw).firings = s.firings := rfl
@[simp] theorem Part.addDraw_airing (s : Part) : (s.addDraw).airing = s.airing := rfl
@[simp] theorem Part.addDraw_timings (s : Part) : (s.addDraw).timings = s.timings := rfl
@[simp] theorem Part.addDraw_presenters (s : Part) : (s.addDraw).presenters = s.presenters := rfl
@[simp] theorem Part.addDraw_channels (s : Part) : (s.addDraw).channels = s.channels := rfl
@[simp] theorem Part.addDraw_lines (s : Part) : (s.addDraw).lines = s.lines := rfl
@[simp] theorem Part.addDraw_trunkLoss (s : Part) : (s.addDraw).trunkLoss = s.trunkLoss := rfl
@[simp] theorem Part.addDraw_notices (s : Part) : (s.addDraw).notices = s.notices := rfl
@[simp] theorem Part.addDraw_noticesLost (s : Part) : (s.addDraw).noticesLost = s.noticesLost := rfl
@[simp] theorem Part.addDraw_draws (s : Part) : (s.addDraw).draws = s.draws + 1 := rfl
@[simp] theorem Part.addDraw_record (s : Part) (i : RecId) : (s.addDraw).record i = s.record i := rfl
@[simp] theorem Part.addDraw_rundown (s : Part) (i : ProgId) : (s.addDraw).rundown i = s.rundown i := rfl
@[simp] theorem Part.addDraw_runner (s : Part) (i : ProgId) : (s.addDraw).runner i = s.runner i := rfl
@[simp] theorem Part.addDraw_firing (s : Part) (i : ProgId) : (s.addDraw).firing i = s.firing i := rfl
@[simp] theorem Part.addDraw_airingSet (s : Part) (i : ProgId) : (s.addDraw).airingSet i = s.airingSet i := rfl
@[simp] theorem Part.addDraw_timing (s : Part) (i : ProgId) : (s.addDraw).timing i = s.timing i := rfl
@[simp] theorem Part.addDraw_presenter (s : Part) (i : PresId) : (s.addDraw).presenter i = s.presenter i := rfl
@[simp] theorem Part.addDraw_channel (s : Part) (i : ChanId) : (s.addDraw).channel i = s.channel i := rfl
@[simp] theorem Part.addDraw_line (s : Part) (i : LineId) : (s.addDraw).line i = s.line i := rfl

/-! ### The state around the part -/

@[simp] theorem State.onPart_pending (s : State) (f : Part → Part) : (s.onPart f).pending = s.pending := rfl
@[simp] theorem State.onPart_toPart (s : State) (f : Part → Part) : (s.onPart f).toPart = f s.toPart := rfl

/-! ### Doing one thing for each member -/

@[simp] theorem Part.forEach_nil (s : Part) (f : ι → Part → Part) : s.forEach [] f = s := rfl
@[simp] theorem Part.forEach_cons (s : Part) (i : ι) (l : List ι) (f : ι → Part → Part) :
    s.forEach (i :: l) f = (f i s).forEach l f := rfl

/-- What each single step keeps, the whole keeps. -/
theorem Part.forEach_inv (motive : Part → Prop) (f : ι → Part → Part) :
    ∀ (l : List ι) (s : Part), (∀ i ∈ l, ∀ t, motive t → motive (f i t)) → motive s → motive (s.forEach l f)
  | [], _, _, h => h
  | i :: l, s, hf, h =>
    Part.forEach_inv motive f l (f i s) (fun j hj => hf j (List.mem_cons_of_mem i hj)) (hf i List.mem_cons_self s h)

/-- What each single step leaves equal, the whole leaves equal. -/
theorem Part.forEach_same (g : Part → α) (f : ι → Part → Part) (h : ∀ i t, g (f i t) = g t) (l : List ι) (s : Part) :
    g (s.forEach l f) = g s :=
  Part.forEach_inv (fun t => g t = g s) f l s (fun i _ t ht => (h i t).trans ht) rfl

end Machine

end Sys2Proof
end

