-- ==== Sys2Proof/Laws/Commands.lean ====
section
/-! SUPPORT. How a command message stands on the part: what an idle intake does with it, what its answer changes, and
what the lines show after it. -/

namespace Sys2Proof.Machine

/-! ### Lines that follow (R167, R169) -/

@[simp] theorem Part.settleLines_line (s : Part) (l : LineId) :
    s.settleLines.line l = (s.line l).withLevels s.trunkLoss (s.requestedLevel (s.line l)) := by
  simp [Part.settleLines, Part.line]

/-- Recomputing the lines changes no other block. -/
theorem Part.settleLines_eq (s : Part) : s.settleLines = { s with lines := s.settleLines.lines } := rfl

@[simp] theorem Part.settleLines_port (s : Part) : s.settleLines.port = s.port := rfl
@[simp] theorem Part.settleLines_intake (s : Part) : s.settleLines.intake = s.intake := rfl
@[simp] theorem Part.settleLines_clock (s : Part) : s.settleLines.clock = s.clock := rfl
@[simp] theorem Part.settleLines_store (s : Part) : s.settleLines.store = s.store := rfl
@[simp] theorem Part.settleLines_rundowns (s : Part) : s.settleLines.rundowns = s.rundowns := rfl
@[simp] theorem Part.settleLines_runners (s : Part) : s.settleLines.runners = s.runners := rfl
@[simp] theorem Part.settleLines_firings (s : Part) : s.settleLines.firings = s.firings := rfl
@[simp] theorem Part.settleLines_airing (s : Part) : s.settleLines.airing = s.airing := rfl
@[simp] theorem Part.settleLines_timings (s : Part) : s.settleLines.timings = s.timings := rfl
@[simp] theorem Part.settleLines_presenters (s : Part) : s.settleLines.presenters = s.presenters := rfl
@[simp] theorem Part.settleLines_channels (s : Part) : s.settleLines.channels = s.channels := rfl
@[simp] theorem Part.settleLines_trunkLoss (s : Part) : s.settleLines.trunkLoss = s.trunkLoss := rfl
@[simp] theorem Part.settleLines_notices (s : Part) : s.settleLines.notices = s.notices := rfl
@[simp] theorem Part.settleLines_noticesLost (s : Part) : s.settleLines.noticesLost = s.noticesLost := rfl
@[simp] theorem Part.settleLines_draws (s : Part) : s.settleLines.draws = s.draws := rfl

/-- The requested level of a line reads the programs, the tables, the channels, the flash phases and the line itself. -/
theorem Part.requestedLevel_congr {s t : Part} (h1 : t.runners = s.runners) (h2 : t.rundowns = s.rundowns)
    (h3 : t.firings = s.firings) (h4 : t.channels = s.channels)
    (h5 : ∀ k, (t.presenter k).lampLit t.clock.rate = (s.presenter k).lampLit s.clock.rate) (ln : Line) :
    t.requestedLevel ln = s.requestedLevel ln := by
  unfold Part.requestedLevel Part.tallyLit Part.rehearsalLit Part.onAirLit Part.onAirEntry Part.runner Part.rundown
    Part.firing Part.channel
  simp only [h1, h2, h3, h4, h5]

/-- A line's function, configuration and every field but its three levels survive the forming of its levels. -/
theorem Line.withLevels_rest (ln : Line) (loss : TrunkLoss) (r : Option Bool) :
    ln.withLevels loss r = { ln with requested := (ln.withLevels loss r).requested
                                     output := (ln.withLevels loss r).output
                                     driven := (ln.withLevels loss r).driven } := rfl

@[simp] theorem Line.withLevels_fn (ln : Line) (loss : TrunkLoss) (r : Option Bool) :
    (ln.withLevels loss r).fn = ln.fn := rfl
@[simp] theorem Line.withLevels_requested (ln : Line) (loss : TrunkLoss) (r : Option Bool) :
    (ln.withLevels loss r).requested = r := rfl
@[simp] theorem Line.withLevels_output (ln : Line) (loss : TrunkLoss) (r : Option Bool) :
    (ln.withLevels loss r).output = ln.outputLevel loss r := rfl
@[simp] theorem Line.withLevels_config (ln : Line) (loss : TrunkLoss) (r : Option Bool) :
    (ln.withLevels loss r).config = ln.config := rfl
@[simp] theorem Line.withLevels_manual (ln : Line) (loss : TrunkLoss) (r : Option Bool) :
    (ln.withLevels loss r).manual = ln.manual := rfl

/-! ### An idle intake (R17, R18) -/

/-- An idle intake with room for an answer carries a command out at once. -/
theorem Part.submit_of_listening {s : Part} (h : Listening s) (o : Origin) (c : Command) (r : Part × Reply) :
    s.submit o c r = answered o c.code r := by
  obtain ⟨_, hq, _, hc, hr⟩ := h
  unfold Part.submit
  rw [if_pos]
  exact ⟨by rw [hq]; rfl, by simp [Intake.mayTake, hc, repliesMax, hr]⟩

/-- A command row on an idle intake: the command is carried out, the lines follow, and it is answered. -/
theorem State.command_of_listening {s : State} (h : Listening s.toPart) (o : Origin) (c : Command)
    (f : Part → Part × Reply) :
    s.command o c f = .next (s.onPart (fun t => answered o c.code (f t))) := by
  have ha : s.toPart.active = true := h.1
  unfold State.command whenActive
  simp only [State.onPart, ha, if_true, Part.submit_of_listening h]

/-- A part in reset, or a pure repeater, does nothing with a command message (R14). -/
theorem State.command_of_inactive {s : State} (h : s.toPart.active = false) (o : Origin) (c : Command)
    (f : Part → Part × Reply) : s.command o c f = .next s := by
  unfold State.command whenActive
  simp [State.onPart, h]

/-- An event row of an active part: its effect, and the lines that follow. -/
theorem State.event_of_active {s : State} (h : s.toPart.active = true) (f : Part → Part) :
    s.event f = .next (s.onPart (fun t => (f t).settleLines)) := by
  unfold State.event whenActive
  simp [State.onPart, h]

theorem State.event_of_inactive {s : State} (h : s.toPart.active = false) (f : Part → Part) : s.event f = .next s := by
  unfold State.event whenActive
  simp [State.onPart, h]

/-- A cell row of an active part. -/
theorem State.cellIn_of_active {s : State} (h : s.toPart.active = true) (c : Cell) (f : Part → Part) :
    s.cellIn c f = .next (s.onPart (fun t => (f t).settleLines)) := by
  unfold State.cellIn
  simp [State.onPart, h]

/-! ### Answers (R18, R19) -/

@[simp] theorem Part.answer_intake (s : Part) (o : Origin) (code : Nat) (r : Reply) :
    (s.answer o code r).intake = { s.intake with replies := s.intake.replies ++
      [{ dest := o.source, tag := o.tag, payload := r.payload code, sent := 0 }] } := rfl

/-- An answer changes the reply queue alone. -/
theorem Part.answer_eq (s : Part) (o : Origin) (code : Nat) (r : Reply) :
    s.answer o code r = { s with intake := (s.answer o code r).intake } := rfl

/-- What a carried-out command leaves: its own effect, the lines that follow it, and the answer. -/
theorem answered_eq (o : Origin) (code : Nat) (r : Part × Reply) :
    answered o code r = { r.1 with lines := r.1.settleLines.lines, intake := { r.1.intake with replies :=
      r.1.intake.replies ++ [{ dest := o.source, tag := o.tag, payload := r.2.payload code, sent := 0 }] } } := rfl

theorem answered_replied {s : Part} {r : Part × Reply} (h : r.1.intake = s.intake) (o : Origin) (code : Nat) :
    Replied s (answered o code r) o code r.2 := by
  show _ = _
  rw [answered_eq]
  simp only [h]

/-- The lines after a command that leaves them alone follow the state it leaves. -/
theorem answered_lines {s : Part} {r : Part × Reply} (h : r.1.lines = s.lines) (o : Origin) (code : Nat) :
    LinesFollow s (answered o code r) := by
  intro l
  show r.1.settleLines.line l = _
  rw [Part.settleLines_line]
  have hl : r.1.line l = s.line l := by unfold Part.line; rw [h]
  rw [hl]
  rfl

/-! ### An intake that cannot take (R17, R18) -/

theorem Part.takeMessages_of_empty {s : Part} (h : s.intake.queue = []) : s.takeMessages = s := by
  unfold Part.takeMessages; rw [h]; rfl

/-- With the reply queue full nothing is taken. -/
theorem Part.drain_of_full {s : Part} (h : s.intake.mayTake = false) : ∀ n, s.drain n = s
  | 0 => rfl
  | n + 1 => by
    unfold Part.drain
    split
    · rfl
    · simp [h]

theorem Part.takeMessages_of_full {s : Part} (h : s.intake.mayTake = false) : s.takeMessages = s :=
  Part.drain_of_full h _

/-- A message joins the intake queue, or is lost with its notice; nothing else changes. -/
theorem Part.join_of_room {s : Part} (h : s.intake.queue.length < 32) (m : Message) :
    s.join m = s.onIntake (fun k => k.withQueue (k.queue ++ [m])) := by
  unfold Part.join
  simp [intakeMax, h]

end Sys2Proof.Machine
end

