-- ==== Sys2Proof/Laws/FrameStart.lean ====
section
/-! SUPPORT. The work of a frame start, one lemma for each operation: what it does to the block it works on, and that it
leaves the others alone. -/

namespace Sys2Proof.Machine

/-! ### The port and the rate (R9, R27, R171) -/

/-- The Trunk Port at a frame start: slots accepted before are in effect, and the frame's own fields are set. -/
theorem Part.portStart_port (s : Part) (locked : Bool) :
    (s.portStart locked).port =
      { s.port with
        lockedFrame := locked, frameWasLocked := locked, endedLocked := s.port.frameWasLocked, beganLocked := locked
        frameTag := s.clock.frame % 256, emptyUsed := 0
        slots := s.port.pendingSlots.getD s.port.slots, pendingSlots := none } := rfl

@[simp] theorem Part.portStart_clock (s : Part) (locked : Bool) : (s.portStart locked).clock = s.clock := rfl

@[simp] theorem Part.restartFlashing_presenter (s : Part) (k : PresId) :
    s.restartFlashing.presenter k = { s.presenter k with count := 0 } := by
  simp [Part.restartFlashing, Part.presenter]

/-- No rate waits: nothing happens. -/
theorem Part.rateTakesEffect_none {s : Part} (h : s.clock.pendingRate = none) : s.rateTakesEffect = s := by
  simp [Part.rateTakesEffect, h]

/-- A rate that waits takes effect. -/
theorem Part.rateTakesEffect_some {s : Part} {r : Rate} (h : s.clock.pendingRate = some r) :
    s.rateTakesEffect =
      ((s.onClock (fun c =>
        { c with rate := r, pendingRate := none, day := 0, rateStart := true, tickRate := r })).onPort
        (fun t => { t with lock := .seeking 0, lockedFrame := false, frameWasLocked := false
                           beganLocked := false })).restartFlashing := by
  simp [Part.rateTakesEffect, h]

/-! ### Channels (R146, R158) -/

@[simp] theorem Part.configsTakeEffect_channel (s : Part) (c : ChanId) :
    s.configsTakeEffect.channel c = (s.channel c).configTakesEffect := by
  simp [Part.configsTakeEffect, Part.channel]

@[simp] theorem Part.configsTakeEffect_firings (s : Part) : s.configsTakeEffect.firings = s.firings := rfl

@[simp] theorem Part.configsTakeEffect_notices (s : Part) : s.configsTakeEffect.notices = s.notices := rfl

/-- Outside a frame that began LOCKED no channel issues a command. -/
theorem Part.issue_unlocked {s : Part} (c : ChanId) (h : s.port.lockedFrame = false ∨ s.port.beganLocked = false) :
    s.issue c = s := by
  obtain h | h := h <;> simp [Part.issue, Part.mayIssue, h]

/-! ### Held ROLLs (R137) -/

/-- A row that holds no ROLL is not tested. -/
theorem Part.testHeld_none {s : Part} {p : ProgId} {t : TableKind} {i : Nat} {r : Row} (h : s.row? p t i = some r)
    (hr : r.held = none) : s.testHeld p t i = s := by
  simp [Part.testHeld, h, hr]

/-- A ROLL held in this frame is not tested in it. -/
theorem Part.testHeld_new {s : Part} {p : ProgId} {t : TableKind} {i : Nat} {r : Row} (h : s.row? p t i = some r)
    (hr : r.heldAt = s.clock.frame) : s.testHeld p t i = s := by
  simp [Part.testHeld, h, hr]

/-! ### Reply slots (R13, R20) -/

/-- A reply slot's turn has come when the slots before it in the list stand before it in the frame. -/
theorem Part.replyTurn_iff (s : Part) (slot : Nat) :
    s.replyTurn slot = true ↔ ∀ m ∈ s.port.slots.replies.takeWhile (fun n => n != slot), m < slot := by
  simp [Part.replyTurn]

/-- The first slot of the list has its turn at once. -/
theorem Part.replyTurn_first {s : Part} {slot : Nat} {rest : List Nat} (h : s.port.slots.replies = slot :: rest) :
    s.replyTurn slot = true := by
  simp [Part.replyTurn, h]

end Sys2Proof.Machine
end

