-- ==== Sys2Proof/Laws/Frames.lean ====
section
/-! SUPPORT. What the shared operations leave alone: one lemma for each, saying that everything but the named blocks is
as it was. -/

namespace Sys2Proof.Machine

/-- Everything but the tables, the channels and the notices. -/
def Part.sansCues (s : Part) : Part :=
  { s with firings := Vector.replicate 4 Firing.reset, channels := Vector.replicate 24 Channel.reset, notices := []
           noticesLost := false }

/-- Everything but the lists, the program records, the airing sets, the tables, the channels and the notices. -/
def Part.sansRun (s : Part) : Part :=
  { s.sansCues with rundowns := Vector.replicate 4 Rundown.empty, runners := Vector.replicate 4 Runner.reset
                    airing := Vector.replicate 4 [] }

/-! ### The single updates -/

@[simp] theorem Part.onFiring_sansCues (s : Part) (p : ProgId) (f : Firing → Firing) :
    (s.onFiring p f).sansCues = s.sansCues := rfl
@[simp] theorem Part.onChannel_sansCues (s : Part) (c : ChanId) (f : Channel → Channel) :
    (s.onChannel c f).sansCues = s.sansCues := rfl
@[simp] theorem Part.setNotices_sansCues (s : Part) (q : List Notice) (b : Bool) :
    (s.setNotices q b).sansCues = s.sansCues := rfl
@[simp] theorem Part.raise_sansCues (s : Part) (k : NoticeKind) (sub : Subject) :
    (s.raise k sub).sansCues = s.sansCues := rfl
@[simp] theorem Part.onRow_sansCues (s : Part) (p : ProgId) (t : TableKind) (i : Nat) (g : Row → Row) :
    (s.onRow p t i g).sansCues = s.sansCues := rfl

@[simp] theorem Part.onRundown_sansRun (s : Part) (p : ProgId) (f : Rundown → Rundown) :
    (s.onRundown p f).sansRun = s.sansRun := rfl
@[simp] theorem Part.onRunner_sansRun (s : Part) (p : ProgId) (f : Runner → Runner) :
    (s.onRunner p f).sansRun = s.sansRun := rfl
@[simp] theorem Part.onAiring_sansRun (s : Part) (p : ProgId) (f : List ChanId → List ChanId) :
    (s.onAiring p f).sansRun = s.sansRun := rfl
@[simp] theorem Part.onFiring_sansRun (s : Part) (p : ProgId) (f : Firing → Firing) :
    (s.onFiring p f).sansRun = s.sansRun := rfl
@[simp] theorem Part.onChannel_sansRun (s : Part) (c : ChanId) (f : Channel → Channel) :
    (s.onChannel c f).sansRun = s.sansRun := rfl
@[simp] theorem Part.onEntry_sansRun (s : Part) (p : ProgId) (tag : Nat) (f : Entry → Entry) :
    (s.onEntry p tag f).sansRun = s.sansRun := rfl
@[simp] theorem Part.raise_sansRun (s : Part) (k : NoticeKind) (sub : Subject) :
    (s.raise k sub).sansRun = s.sansRun := rfl

/-- What changes only cues changes nothing that running a program does not. -/
theorem Part.sansRun_of_sansCues {s t : Part} (h : t.sansCues = s.sansCues) : t.sansRun = s.sansRun := by
  unfold Part.sansRun
  rw [h]

/-! ### What the frames give back -/

theorem Part.store_of_sansRun {s t : Part} (h : t.sansRun = s.sansRun) : t.store = s.store := by
  have h' := congrArg Part.store h
  exact h'
theorem Part.clock_of_sansRun {s t : Part} (h : t.sansRun = s.sansRun) : t.clock = s.clock := by
  have h' := congrArg Part.clock h
  exact h'
theorem Part.port_of_sansRun {s t : Part} (h : t.sansRun = s.sansRun) : t.port = s.port := by
  have h' := congrArg Part.port h
  exact h'
theorem Part.intake_of_sansRun {s t : Part} (h : t.sansRun = s.sansRun) : t.intake = s.intake := by
  have h' := congrArg Part.intake h
  exact h'
theorem Part.timings_of_sansRun {s t : Part} (h : t.sansRun = s.sansRun) : t.timings = s.timings := by
  have h' := congrArg Part.timings h
  exact h'
theorem Part.presenters_of_sansRun {s t : Part} (h : t.sansRun = s.sansRun) : t.presenters = s.presenters := by
  have h' := congrArg Part.presenters h
  exact h'
theorem Part.lines_of_sansRun {s t : Part} (h : t.sansRun = s.sansRun) : t.lines = s.lines := by
  have h' := congrArg Part.lines h
  exact h'
theorem Part.trunkLoss_of_sansRun {s t : Part} (h : t.sansRun = s.sansRun) : t.trunkLoss = s.trunkLoss := by
  have h' := congrArg Part.trunkLoss h
  exact h'
theorem Part.draws_of_sansRun {s t : Part} (h : t.sansRun = s.sansRun) : t.draws = s.draws := by
  have h' := congrArg Part.draws h
  exact h'
theorem Part.rundowns_of_sansCues {s t : Part} (h : t.sansCues = s.sansCues) : t.rundowns = s.rundowns := by
  have h' := congrArg Part.rundowns h
  exact h'
theorem Part.runners_of_sansCues {s t : Part} (h : t.sansCues = s.sansCues) : t.runners = s.runners := by
  have h' := congrArg Part.runners h
  exact h'
theorem Part.airing_of_sansCues {s t : Part} (h : t.sansCues = s.sansCues) : t.airing = s.airing := by
  have h' := congrArg Part.airing h
  exact h'

/-! ### Outcomes, posts and rows (R126, R137, R139) -/

/-- A row is in flight as R127 says. -/
theorem Row.inFlight_iff (r : Row) : r.inFlight = true ↔ r.held = none ∧ (r.outcome = .posted ∨ r.outcome = .issued) := by
  simp [Row.inFlight]

/-- What an outcome handed back makes of a row. -/
theorem Row.told_eq (n : Nat) (o : RowOutcome) (r : Row) :
    r.told n o = if r.posting = some n ∧ (r.held = none ∧ (r.outcome = .posted ∨ r.outcome = .issued)) then { r with outcome := o }
      else r := by
  simp [Row.told, Row.inFlight_iff]

/-- An outcome handed back passes over both tables of its program, row by row. -/
theorem Part.report_rows (s : Part) (p : ProgId) (n : Nat) (o : RowOutcome) (k : TableKind) :
    (((s.report p (some n) o).firing p).table k).rows = ((s.firing p).table k).rows.map (Row.told n o) := by
  cases k <;> simp [Part.report, Firing.table, Table.report]

/-- An outcome handed back changes rows alone. -/
@[simp] theorem Part.report_sansCues (s : Part) (p : ProgId) (n : Option Nat) (o : RowOutcome) :
    (s.report p n o).sansCues = s.sansCues := by
  cases n <;> rfl

@[simp] theorem Part.postEcho_sansCues (s : Part) (p : ProgId) (c : ChanId) (a : Action) (n : Option Nat) :
    (s.postEcho p c a n).1.sansCues = s.sansCues := by
  unfold Part.postEcho; split <;> rfl

@[simp] theorem Part.postChannel_sansCues (s : Part) (c : ChanId) (k : QCommand) :
    (s.postChannel c k).1.sansCues = s.sansCues := by
  unfold Part.postChannel; split <;> rfl

/-- A post changes an echo or a queue alone. -/
@[simp] theorem Part.post_sansCues (s : Part) (c : ChanId) (k : QCommand) : (s.post c k).1.sansCues = s.sansCues := by
  unfold Part.post; split <;> simp

@[simp] theorem Part.raiseRefusal_sansCues (s : Part) (p : ProgId) (tag : Nat) (c : ChanId) (a : PostAnswer) :
    (s.raiseRefusal p tag c a).sansCues = s.sansCues := by
  cases a <;> rfl

@[simp] theorem Part.postRow_sansCues (s : Part) (p : ProgId) (t : TableKind) (i : Nat) :
    (s.postRow p t i).sansCues = s.sansCues := by
  unfold Part.postRow; split <;> simp

@[simp] theorem Part.postClear_sansCues (s : Part) (p : ProgId) (c : ChanId) :
    (s.postClear p c).sansCues = s.sansCues := by
  unfold Part.postClear; simp

@[simp] theorem Part.giveUpRow_sansCues (s : Part) (p : ProgId) (t : TableKind) (i : Nat) (r : Row) :
    (s.giveUpRow p t i r).sansCues = s.sansCues := rfl

@[simp] theorem Part.fireRow_sansCues (s : Part) (p : ProgId) (t : TableKind) (i : Nat) :
    (s.fireRow p t i).sansCues = s.sansCues := by
  unfold Part.fireRow; split
  · rfl
  · split
    · split <;> simp
    · simp

@[simp] theorem Part.rollOnReady_sansCues (s : Part) (p : ProgId) (t : TableKind) (i : Nat) :
    (s.rollOnReady p t i).sansCues = s.sansCues := by
  unfold Part.rollOnReady; split
  · rfl
  · split <;> simp

@[simp] theorem Part.rollNotReady_sansCues (s : Part) (p : ProgId) (t : TableKind) (i : Nat) :
    (s.rollNotReady p t i).sansCues = s.sansCues := by
  unfold Part.rollNotReady; split
  · rfl
  · split
    · rfl
    · split <;> simp

@[simp] theorem Part.testHeld_sansCues (s : Part) (p : ProgId) (t : TableKind) (i : Nat) :
    (s.testHeld p t i).sansCues = s.sansCues := by
  unfold Part.testHeld; split
  · rfl
  · split
    · rfl
    · split <;> simp

@[simp] theorem Part.postDue_sansCues (s : Part) (p : ProgId) (i : Nat) : (s.postDue p i).sansCues = s.sansCues := by
  unfold Part.postDue; split
  · split <;> simp
  · rfl

@[simp] theorem Part.postAtTake_sansCues (s : Part) (p : ProgId) : (s.postAtTake p).sansCues = s.sansCues := by
  unfold Part.postAtTake
  exact Part.forEach_same Part.sansCues _ (fun i t => by split <;> (try split) <;> simp) _ _

@[simp] theorem Part.settleDue_sansCues (s : Part) (p : ProgId) (final i : Nat) :
    (s.settleDue p final i).sansCues = s.sansCues := by
  unfold Part.settleDue; split
  · rfl
  · split
    · split <;> simp
    · rfl

@[simp] theorem Part.settleTable_sansCues (s : Part) (p : ProgId) (final : Nat) :
    (s.settleTable p final).sansCues = s.sansCues := by
  unfold Part.settleTable
  refine Eq.trans (Part.onFiring_sansCues _ _ _) ?_
  exact Part.forEach_same Part.sansCues _ (fun i t => Part.settleDue_sansCues t p final i) _ _

@[simp] theorem Part.postOnNext_sansCues (s : Part) (p : ProgId) : (s.postOnNext p).sansCues = s.sansCues := by
  unfold Part.postOnNext
  split
  · rfl
  · exact Part.forEach_same Part.sansCues _ (fun i t => by split <;> (try split) <;> simp) _ _

@[simp] theorem Part.echoClears_sansCues (s : Part) (p : ProgId) (used : List ChanId) (next : Option RecId) :
    (s.echoClears p used next).sansCues = s.sansCues := by
  unfold Part.echoClears
  exact Part.forEach_same Part.sansCues _ (fun c t => Part.postClear_sansCues t p c) _ _

/-! ### Claims (R151 to R154) -/

@[simp] theorem Part.preempt_sansCues (s : Part) (p q : ProgId) (c : ChanId) :
    (s.preempt p q c).sansCues = s.sansCues := by
  unfold Part.preempt
  dsimp only
  refine Eq.trans (Part.onChannel_sansCues _ _ _) (Eq.trans (Part.raise_sansCues _ _ _) ?_)
  exact Part.forEach_same Part.sansCues _ (fun (k : QCommand) t => Part.report_sansCues t q k.posting .preempted) _ _

/-- A claim request changes the channel, and at a preemption the rows and notices of what is lost. -/
@[simp] theorem Part.claimRequest_sansCues (s : Part) (p : ProgId) (c : ChanId) :
    (s.claimRequest p c).sansCues = s.sansCues := by
  unfold Part.claimRequest
  dsimp only
  split
  · simp
  · split
    · rfl
    · split <;> simp
  · split
    · split <;> simp
    · simp

@[simp] theorem Part.releaseRequest_sansCues (s : Part) (p : ProgId) (c : ChanId) :
    (s.releaseRequest p c).sansCues = s.sansCues := by
  unfold Part.releaseRequest; split <;> simp

@[simp] theorem Part.passClaim_sansCues (s : Part) (p : ProgId) (c : ChanId) :
    (s.passClaim p c).sansCues = s.sansCues := by
  unfold Part.passClaim; simp

@[simp] theorem Part.claimPass_sansCues (s : Part) (c : ChanId) : (s.claimPass c).sansCues = s.sansCues := by
  unfold Part.claimPass; split
  · split <;> simp
  · rfl
  · rfl

@[simp] theorem Part.releaseUnneeded_sansCues (s : Part) (p : ProgId) :
    (s.releaseUnneeded p).sansCues = s.sansCues := by
  unfold Part.releaseUnneeded
  exact Part.forEach_same Part.sansCues _ (fun i t => by split <;> simp) _ _

/-! ### Next selection (R77, R97) -/

/-- The effects of leaving NEXT are posts, release requests and an emptied table. -/
@[simp] theorem Part.leaveEffects_sansCues (s : Part) (p : ProgId) (story : RecId) (incoming : Option RecId) :
    (s.leaveEffects p story incoming).sansCues = s.sansCues := by
  unfold Part.leaveEffects
  dsimp only
  refine Eq.trans (Part.onFiring_sansCues _ _ _) ?_
  split
  · exact Part.forEach_same Part.sansCues _ (fun c t => Part.postClear_sansCues t p c) _ _
  · refine Eq.trans (Part.forEach_same Part.sansCues _ (fun c t => Part.releaseRequest_sansCues t p c) _ _) ?_
    exact Part.forEach_same Part.sansCues _ (fun c t => Part.postClear_sansCues t p c) _ _

/-- The effects of becoming NEXT are a table, claim requests and posts. -/
@[simp] theorem Part.becomeEffects_sansCues (s : Part) (p : ProgId) (tag : Nat) (story : RecId) :
    (s.becomeEffects p tag story).sansCues = s.sansCues := by
  unfold Part.becomeEffects
  dsimp only
  refine Eq.trans (Part.postOnNext_sansCues _ _) ?_
  refine Eq.trans (Part.forEach_same Part.sansCues _ (fun c t => Part.claimRequest_sansCues t p c) _ _) rfl

@[simp] theorem Part.leaveNext_sansRun (s : Part) (p : ProgId) (e : Entry) (target : EntryState) (incoming : Option RecId) :
    (s.leaveNext p e target incoming).sansRun = s.sansRun := by
  unfold Part.leaveNext
  rw [Part.sansRun_of_sansCues (Part.leaveEffects_sansCues _ _ _ _)]
  rfl

@[simp] theorem Part.becomeNext_sansRun (s : Part) (p : ProgId) (e : Entry) :
    (s.becomeNext p e).sansRun = s.sansRun := by
  unfold Part.becomeNext
  rw [Part.sansRun_of_sansCues (Part.becomeEffects_sansCues _ _ _ _)]
  rfl

@[simp] theorem Part.changeNext_sansRun (s : Part) (p : ProgId) (old new : Option Entry) (target : EntryState) :
    (s.changeNext p old new target).sansRun = s.sansRun := by
  unfold Part.changeNext
  cases old <;> cases new <;> simp

/-- Next selection changes a list, its program's record, tables, channels and notices. -/
@[simp] theorem Part.selectNext_sansRun (s : Part) (p : ProgId) : (s.selectNext p).sansRun = s.sansRun := by
  unfold Part.selectNext
  dsimp only
  split
  · rfl
  · simp

@[simp] theorem Part.pinNext_sansRun (s : Part) (p : ProgId) (e : Entry) : (s.pinNext p e).sansRun = s.sansRun := by
  unfold Part.pinNext
  dsimp only
  rw [Part.onRunner_sansRun]
  split
  · rfl
  · simp

end Sys2Proof.Machine
end

