-- ==== Sys2Proof/Laws/Lists.lean ====
section
/-! SUPPORT. Laws of running orders, of the notice queue and of counts: what is found in a list, what a change of one
entry keeps, where a notice enters, and what a difference of frame counts is. -/

namespace Sys2Proof.Machine

/-! ### What is found in a list -/

/-- Two members with one key are one member, where keys do not repeat. -/
theorem eq_of_nodup_map (f : α → β) : ∀ {l : List α}, (l.map f).Nodup → ∀ {x y : α}, x ∈ l → y ∈ l → f x = f y → x = y
  | [], _, _, _, hx, _, _ => absurd hx List.not_mem_nil
  | a :: l, h, x, y, hx, hy, hf => by
    rw [List.map_cons, List.nodup_cons] at h
    rcases List.mem_cons.1 hx with hx | hx <;> rcases List.mem_cons.1 hy with hy | hy
    · rw [hx, hy]
    · exact absurd (List.mem_map_of_mem (f := f) hy) (by rw [← hf, hx]; exact h.1)
    · exact absurd (List.mem_map_of_mem (f := f) hx) (by rw [hf, hy]; exact h.1)
    · exact eq_of_nodup_map f h.2 hx hy hf

theorem Rundown.entry?_some {l : Rundown} {tag : Nat} {e : Entry} (h : l.entry? tag = some e) :
    e ∈ l.entries ∧ e.tag = tag := by
  refine ⟨List.mem_of_find?_eq_some h, ?_⟩
  have := List.find?_some h
  simpa using this

theorem Rundown.entry?_eq_none {l : Rundown} {tag : Nat} : l.entry? tag = none ↔ tag ∉ l.entries.map Entry.tag := by
  unfold Rundown.entry?
  rw [List.find?_eq_none]
  simp only [List.mem_map, not_exists, not_and, beq_iff_eq]

/-- With unique tags the entry of a tag is the one that stands in the list with it. -/
theorem Rundown.entry?_of_mem {l : Rundown} (h : (l.entries.map Entry.tag).Nodup) {e : Entry} (he : e ∈ l.entries) :
    l.entry? e.tag = some e := by
  cases hf : l.entry? e.tag with
  | none => exact absurd (List.mem_map_of_mem he) (Rundown.entry?_eq_none.1 hf)
  | some x =>
    have hx := Rundown.entry?_some hf
    rw [eq_of_nodup_map Entry.tag h hx.1 he hx.2]

theorem Rundown.next?_some {l : Rundown} {e : Entry} (h : l.next? = some e) : e ∈ l.entries ∧ e.state = .next := by
  refine ⟨List.mem_of_find?_eq_some h, ?_⟩
  have := List.find?_some h
  simpa using this

theorem Rundown.onAir?_some {l : Rundown} {e : Entry} (h : l.onAir? = some e) :
    e ∈ l.entries ∧ e.state = .onAir := by
  refine ⟨List.mem_of_find?_eq_some h, ?_⟩
  have := List.find?_some h
  simpa using this

theorem Rundown.next?_eq_none {l : Rundown} : l.next? = none ↔ ∀ e ∈ l.entries, e.state ≠ .next := by
  unfold Rundown.next?
  rw [List.find?_eq_none]
  simp only [beq_iff_eq, ne_eq]

theorem Rundown.onAir?_eq_none {l : Rundown} : l.onAir? = none ↔ ∀ e ∈ l.entries, e.state ≠ .onAir := by
  unfold Rundown.onAir?
  rw [List.find?_eq_none]
  simp only [beq_iff_eq, ne_eq]

/-! ### A change of one entry -/

@[simp] theorem Rundown.mapEntry_mark (l : Rundown) (tag : Nat) (f : Entry → Entry) :
    (l.mapEntry tag f).mark = l.mark := rfl

/-- A change of one entry that keeps its tag keeps the tags of the list, in their order. -/
theorem Rundown.mapEntry_tags (l : Rundown) (tag : Nat) (f : Entry → Entry) (h : ∀ e, (f e).tag = e.tag) :
    (l.mapEntry tag f).entries.map Entry.tag = l.entries.map Entry.tag := by
  unfold Rundown.mapEntry
  rw [List.map_map]
  refine List.map_congr_left (fun e _ => ?_)
  by_cases he : e.tag = tag <;> simp [he, h]

@[simp] theorem Rundown.mapEntry_length (l : Rundown) (tag : Nat) (f : Entry → Entry) :
    (l.mapEntry tag f).entries.length = l.entries.length := by
  simp [Rundown.mapEntry]

/-- A change of one entry changes one program's list, and nothing else. -/
theorem Part.onEntry_rundown (s : Part) (p q : ProgId) (tag : Nat) (f : Entry → Entry) :
    (s.onEntry p tag f).rundown q = if q = p then (s.rundown p).mapEntry tag f else s.rundown q := by
  unfold Part.onEntry
  rw [Part.onRundown_rundown]

/-- Placing an entry adds it and nothing else, whatever the place, when the tag it goes after is in the list once. -/
theorem placeAfter_head (e : Entry) (l : List Entry) : placeAfter e 0 l = e :: l := rfl

/-- An entry placed after a tag stands right behind the entry that carries it. -/
theorem placeAfter_split (e : Entry) (after : Nat) (a b : List Entry) (x : Entry) (ha : after ≠ 0)
    (hx : x.tag = after) (hn : ∀ y ∈ a ++ b, y.tag ≠ after) :
    placeAfter e after (a ++ x :: b) = a ++ x :: e :: b := by
  have keep : ∀ l : List Entry, (∀ y ∈ l, y.tag ≠ after) →
      l.flatMap (fun y => if y.tag = after then [y, e] else [y]) = l := by
    intro l
    induction l with
    | nil => intro _; rfl
    | cons y l ih =>
      intro h
      have hy : y.tag ≠ after := h y List.mem_cons_self
      have hl := ih (fun z hz => h z (List.mem_cons_of_mem _ hz))
      simp [List.flatMap_cons, hy, hl]
  unfold placeAfter
  rw [if_neg ha, List.flatMap_append, List.flatMap_cons, keep a (fun y hy => hn y (List.mem_append_left _ hy)),
    keep b (fun y hy => hn y (List.mem_append_right _ hy))]
  simp [hx]

/-! ### The notice queue (R182) -/

/-- A notice that enters is one more, and none is lost by its entering. -/
theorem noticeEnter_length (n : Notice) : ∀ q : List Notice, (noticeEnter n q).length = q.length + 1
  | [] => rfl
  | m :: rest => by
    unfold noticeEnter
    split
    · simp [noticeEnter_length n rest]
    · simp

theorem mem_noticeEnter {n m : Notice} : ∀ {q : List Notice}, m ∈ noticeEnter n q ↔ m = n ∨ m ∈ q
  | [] => by simp [noticeEnter]
  | x :: rest => by
    unfold noticeEnter
    split
    · simp only [List.mem_cons, mem_noticeEnter (q := rest)]
      exact ⟨fun h => h.elim (fun a => Or.inr (Or.inl a)) (fun a => a.elim Or.inl (fun b => Or.inr (Or.inr b))),
        fun h => h.elim (fun a => Or.inr (Or.inl a)) (fun a => a.elim Or.inl (fun b => Or.inr (Or.inr b)))⟩
    · simp

/-- A raised notice changes the notices and NOTICES_LOST alone. -/
theorem Part.raise_eq (s : Part) (k : NoticeKind) (sub : Subject) :
    s.raise k sub = { s with notices := (s.raise k sub).notices, noticesLost := (s.raise k sub).noticesLost } := rfl

/-! ### Counts (R25) -/

/-- A difference of frame counts is below 2^32, and it leads from the earlier count to the later one. -/
theorem since_spec (later earlier : Nat) :
    since later earlier < 4294967296 ∧ (since later earlier + earlier) % 4294967296 = later % 4294967296 := by
  unfold since
  omega

/-- Nothing else is such a difference. -/
theorem since_unique {later earlier x : Nat} (hx : x < 4294967296)
    (h : (x + earlier) % 4294967296 = later % 4294967296) : x = since later earlier := by
  unfold since
  omega

theorem rateDay_pos (r : Rate) : 0 < rateDay r := by cases r <;> decide

/-- Sorting keeps the members. -/
theorem insertByKey_perm (key : α → Nat) (a : α) : ∀ l : List α, (insertByKey key a l).Perm (a :: l)
  | [] => .refl _
  | b :: rest => by
    unfold insertByKey
    split
    · exact .refl _
    · exact ((insertByKey_perm key a rest).cons b).trans (.swap a b rest)

theorem sortByKey_perm (key : α → Nat) : ∀ l : List α, (sortByKey key l).Perm l
  | [] => .refl _
  | a :: l => (insertByKey_perm key a (sortByKey key l)).trans ((sortByKey_perm key l).cons a)

end Sys2Proof.Machine
end

