-- ==== Sys2Proof/Laws/Memory.lean ====
section
/-! SUPPORT. The laws of the bytes of a record image: read after write, and the canonical form kept by every write. -/

namespace Sys2Proof.Machine

theorem Memory.read_nil (a : Nat) : Memory.read [] a = 0 := rfl

/-- An address below every listed one is unlisted. -/
theorem Memory.read_of_lt : ∀ {m : Memory} {a : Nat}, (∀ x ∈ m, a < x.1) → m.read a = 0
  | [], _, _ => rfl
  | (b, v) :: rest, a, h => by
    have hb : a < b := h (b, v) List.mem_cons_self
    have hr : Memory.read rest a = 0 := Memory.read_of_lt (fun x hx => h x (List.mem_cons_of_mem _ hx))
    have hne : ¬ b = a := by omega
    simp [Memory.read, hne, hr]

/-- A write lists no address but its own and those listed before. -/
theorem Memory.mem_write : ∀ {m : Memory} {a : Nat} {v : Byte} {x : Host.Cell}, x ∈ m.write a v → x ∈ m ∨ x = (a, v)
  | [], a, v, x, h => by
    unfold Memory.write at h
    split at h
    · exact absurd h (by simp)
    · exact Or.inr (List.mem_singleton.1 h)
  | (b, w) :: rest, a, v, x, h => by
    unfold Memory.write at h
    split at h
    · split at h
      · exact Or.inl h
      · rcases List.mem_cons.1 h with h | h
        · exact Or.inr h
        · exact Or.inl h
    · split at h
      · split at h
        · exact Or.inl (List.mem_cons_of_mem _ h)
        · rcases List.mem_cons.1 h with h | h
          · exact Or.inr h
          · exact Or.inl (List.mem_cons_of_mem _ h)
      · rcases List.mem_cons.1 h with h | h
        · exact Or.inl (h ▸ List.mem_cons_self)
        · rcases Memory.mem_write h with h | h
          · exact Or.inl (List.mem_cons_of_mem _ h)
          · exact Or.inr h

/-- The canonical form's two halves over a head and a tail. -/
theorem Memory.wf_cons {b : Nat} {w : Byte} {rest : Memory} :
    Memory.wf ((b, w) :: rest) ↔ w ≠ 0 ∧ (∀ x ∈ rest, b < x.1) ∧ rest.wf := by
  unfold Memory.wf
  rw [List.pairwise_cons]
  constructor
  · rintro ⟨⟨h1, h2⟩, h3⟩
    exact ⟨h3 (b, w) List.mem_cons_self, h1, h2, fun x hx => h3 x (List.mem_cons_of_mem _ hx)⟩
  · rintro ⟨h1, h2, h3, h4⟩
    refine ⟨⟨h2, h3⟩, fun x hx => ?_⟩
    rcases List.mem_cons.1 hx with hx | hx
    · rw [hx]; exact h1
    · exact h4 x hx

theorem Memory.wf_nil : Memory.wf [] := by simp [Memory.wf]

/-- A write keeps the canonical form. -/
theorem Memory.write_wf : ∀ {m : Memory} {a : Nat} {v : Byte}, m.wf → (m.write a v).wf
  | [], a, v, _ => by
    unfold Memory.write
    split
    · exact Memory.wf_nil
    · next hv => exact Memory.wf_cons.2 ⟨hv, by simp, Memory.wf_nil⟩
  | (b, w) :: rest, a, v, h => by
    have hh := Memory.wf_cons.1 h
    unfold Memory.write
    split
    · next hab =>
      split
      · exact h
      · next hv =>
        refine Memory.wf_cons.2 ⟨hv, fun x hx => ?_, h⟩
        rcases List.mem_cons.1 hx with hx | hx
        · rw [hx]; exact hab
        · exact Nat.lt_trans hab (hh.2.1 x hx)
    · next hab =>
      split
      · next hab' =>
        split
        · exact hh.2.2
        · next hv => exact Memory.wf_cons.2 ⟨hv, hab' ▸ hh.2.1, hh.2.2⟩
      · next hab' =>
        refine Memory.wf_cons.2 ⟨hh.1, fun x hx => ?_, Memory.write_wf hh.2.2⟩
        rcases Memory.mem_write hx with hx | hx
        · exact hh.2.1 x hx
        · rw [hx]; show b < a; omega

/-- What an address reads as after a write, in canonical memory. -/
theorem Memory.read_write : ∀ {m : Memory} {a : Nat} {v : Byte} (c : Nat), m.wf →
    (m.write a v).read c = if c = a then v else m.read c
  | [], a, v, c, _ => by
    unfold Memory.write
    split
    · next hv => simp [Memory.read, hv]
    · by_cases hc : c = a
      · simp [Memory.read, hc]
      · have : ¬ a = c := fun e => hc e.symm
        simp [Memory.read, hc, this]
  | (b, w) :: rest, a, v, c, h => by
    have hh := Memory.wf_cons.1 h
    unfold Memory.write
    split
    · next hab =>
      have hlow : Memory.read ((b, w) :: rest) a = 0 := Memory.read_of_lt (fun x hx => by
        rcases List.mem_cons.1 hx with hx | hx
        · rw [hx]; exact hab
        · exact Nat.lt_trans hab (hh.2.1 x hx))
      split
      · next hv =>
        by_cases hc : c = a
        · rw [hc, hlow]; simp [hv]
        · simp [hc]
      · by_cases hc : c = a
        · simp [Memory.read, hc]
        · have : ¬ a = c := fun e => hc e.symm
          simp [Memory.read, hc, this]
    · next hab =>
      split
      · next hab' =>
        have hlow : Memory.read rest a = 0 := Memory.read_of_lt (fun x hx => hab' ▸ hh.2.1 x hx)
        split
        · next hv =>
          by_cases hc : c = a
          · rw [hc, hlow]; simp [hv]
          · have : ¬ b = c := fun e => hc (e.symm.trans hab'.symm)
            simp [Memory.read, hc, this]
        · by_cases hc : c = a
          · simp [Memory.read, hc]
          · have h1 : ¬ a = c := fun e => hc e.symm
            have h2 : ¬ b = c := fun e => hc (e.symm.trans hab'.symm)
            simp [Memory.read, hc, h1, h2]
      · next hab' =>
        show (if b = c then w else (Memory.write rest a v).read c) = _
        rw [Memory.read_write c hh.2.2]
        by_cases hc : c = a
        · have : ¬ b = c := fun e => hab' (e.trans hc).symm
          simp [hc]; intro e; exact absurd e.symm hab'
        · simp [Memory.read, hc]

theorem Memory.read_write_self {m : Memory} (h : m.wf) (a : Nat) (v : Byte) : (m.write a v).read a = v := by
  rw [Memory.read_write a h]; simp

theorem Memory.read_write_of_ne {m : Memory} (h : m.wf) {a c : Nat} (v : Byte) (hc : c ≠ a) :
    (m.write a v).read c = m.read c := by
  rw [Memory.read_write c h]; simp [hc]

/-- A run of writes keeps the canonical form. -/
theorem Memory.writeAll_wf : ∀ (vs : List Byte) {m : Memory} {a : Nat}, m.wf → (m.writeAll a vs).wf
  | [], _, _, h => h
  | _ :: vs, _, _, h => Memory.writeAll_wf vs (Memory.write_wf h)

/-- What an address reads as after a run of writes: the byte written there, or what it read before. -/
theorem Memory.read_writeAll : ∀ (vs : List Byte) {m : Memory} {a : Nat} (c : Nat), m.wf →
    (m.writeAll a vs).read c = if a ≤ c ∧ c < a + vs.length then vs.getD (c - a) 0 else m.read c
  | [], m, a, c, _ => by
    have : ¬ (a ≤ c ∧ c < a + ([] : List Byte).length) := by simp
    simp only [Memory.writeAll, if_neg this]
  | v :: vs, m, a, c, h => by
    rw [Memory.writeAll, Memory.read_writeAll vs c (Memory.write_wf h), Memory.read_write c h]
    by_cases hca : c = a
    · subst hca
      have h1 : ¬ (c + 1 ≤ c ∧ c < c + 1 + vs.length) := by omega
      have h2 : c ≤ c ∧ c < c + (v :: vs).length := by simp
      rw [if_neg h1, if_pos h2]; simp
    · by_cases h1 : a + 1 ≤ c ∧ c < a + 1 + vs.length
      · have h2 : a ≤ c ∧ c < a + (v :: vs).length := by simp only [List.length_cons]; omega
        rw [if_pos h1, if_pos h2]
        have : c - a = (c - (a + 1)) + 1 := by omega
        rw [this]; simp
      · have h2 : ¬ (a ≤ c ∧ c < a + (v :: vs).length) := by simp only [List.length_cons]; omega
        rw [if_neg h1, if_neg h2]; simp [hca]

/-- Writing bytes into a record keeps its content canonical and every other field. -/
theorem Record.put_wf (r : Record) (a : Nat) (bs : List Byte) (h : r.content.wf) : (r.put a bs).content.wf :=
  Memory.writeAll_wf bs h

/-- A FREE record's content is canonical. -/
theorem Record.free_wf : Record.free.content.wf := Memory.wf_nil

/-- Every record's content after reset is canonical. -/
theorem reset_content_wf (r : RecId) : Memory.wf (State.reset.toPart.record r).content := by
  have : State.reset.toPart.record r = Record.free := by
    simp [Part.record, State.reset, Part.reset, Bank.at]
  rw [this]; exact Record.free_wf

end Sys2Proof.Machine
end

