-- ==== Sys2Proof/Laws/Running.lean ====
section
/-! SUPPORT. What running a program leaves alone: a take, an end, a park and a hard start change lists, program records,
airing sets, tables, channels and notices, and nothing else. -/

namespace Sys2Proof.Machine

/-! ### FROM_END rows reckoned again (R128) -/

/-- A reckoned row is a FROM_END row with a new due elapsed, or the row as it was. -/
theorem Row.reckonEnd_cases (planned : Nat) (r : Row) :
    (r.anchor = .fromEnd ∧ r.reckonEnd planned = { r with due := some (planned - r.offset) })
      ∨ (r.anchor ≠ .fromEnd ∧ r.reckonEnd planned = r) := by
  unfold Row.reckonEnd
  split
  · exact .inl ⟨‹_›, rfl⟩
  · exact .inr ⟨‹_›, rfl⟩

@[simp] theorem Row.reckonEnd_outcome (planned : Nat) (r : Row) : (r.reckonEnd planned).outcome = r.outcome := by
  unfold Row.reckonEnd; split <;> rfl

@[simp] theorem Row.reckonEnd_held (planned : Nat) (r : Row) : (r.reckonEnd planned).held = r.held := by
  unfold Row.reckonEnd; split <;> rfl

@[simp] theorem Row.reckonEnd_posting (planned : Nat) (r : Row) : (r.reckonEnd planned).posting = r.posting := by
  unfold Row.reckonEnd; split <;> rfl

@[simp] theorem Part.reckonRows_sansCues (s : Part) (p : ProgId) (n : Nat) : (s.reckonRows p n).sansCues = s.sansCues := rfl

@[simp] theorem Part.reckonRows_channels (s : Part) (p : ProgId) (n : Nat) : (s.reckonRows p n).channels = s.channels := rfl

@[simp] theorem Part.reckonRows_notices (s : Part) (p : ProgId) (n : Nat) : (s.reckonRows p n).notices = s.notices := rfl

@[simp] theorem Part.reckonAiring_sansCues (s : Part) (p : ProgId) : (s.reckonAiring p).sansCues = s.sansCues := by
  unfold Part.reckonAiring; split <;> simp

@[simp] theorem Part.reckonAiring_sansRun (s : Part) (p : ProgId) : (s.reckonAiring p).sansRun = s.sansRun :=
  Part.sansRun_of_sansCues (Part.reckonAiring_sansCues s p)

@[simp] theorem Part.reckonAiring_channels (s : Part) (p : ProgId) : (s.reckonAiring p).channels = s.channels := by
  unfold Part.reckonAiring; split <;> rfl

@[simp] theorem Part.reckonAiring_notices (s : Part) (p : ProgId) : (s.reckonAiring p).notices = s.notices := by
  unfold Part.reckonAiring; split <;> rfl

/-! ### Ends and takes -/

theorem Part.settleTable_sansRun (s : Part) (p : ProgId) (final : Nat) : (s.settleTable p final).sansRun = s.sansRun :=
  Part.sansRun_of_sansCues (Part.settleTable_sansCues s p final)

/-- The end of an airing (R81). -/
@[simp] theorem Part.endAiring_sansRun (s : Part) (p : ProgId) : (s.endAiring p).sansRun = s.sansRun := by
  unfold Part.endAiring
  split
  · rfl
  · simp only [Part.onAiring_sansRun, Part.onEntry_sansRun, Part.settleTable_sansRun]

@[simp] theorem Part.letGo_sansCues (s : Part) (p : ProgId) (used : List ChanId) :
    (s.letGo p used).sansCues = s.sansCues := by
  unfold Part.letGo; split <;> simp

theorem Part.letGo_sansRun (s : Part) (p : ProgId) (used : List ChanId) : (s.letGo p used).sansRun = s.sansRun :=
  Part.sansRun_of_sansCues (Part.letGo_sansCues s p used)

/-- Requests for several claims. -/
theorem Part.claimRequests_sansRun (s : Part) (p : ProgId) (l : List ChanId) :
    (s.forEach l (fun c t => t.claimRequest p c)).sansRun = s.sansRun :=
  Part.sansRun_of_sansCues (Part.forEach_same Part.sansCues _ (fun c t => Part.claimRequest_sansCues t p c) l s)

@[simp] theorem Part.takeP_true (s : Part) (p : ProgId) (n : Entry) : s.takeP p true n = s.planned n.record := rfl
@[simp] theorem Part.takeP_false (s : Part) (p : ProgId) (n : Entry) : s.takeP p false n = s.handedP p n := rfl
@[simp] theorem Part.reckonAt_true (s : Part) (p : ProgId) : s.reckonAt p true = s.reckonAiring p := rfl
@[simp] theorem Part.reckonAt_false (s : Part) (p : ProgId) : s.reckonAt p false = s := rfl

@[simp] theorem Part.reckonAt_sansRun (s : Part) (p : ProgId) (b : Bool) : (s.reckonAt p b).sansRun = s.sansRun := by
  cases b <;> simp

/-- A take (R88). -/
@[simp] theorem Part.take_sansRun (s : Part) (p : ProgId) (b : Bool) : (s.take p b).sansRun = s.sansRun := by
  unfold Part.take
  split
  · rfl
  · dsimp only
    rw [Part.letGo_sansRun, Part.selectNext_sansRun, Part.sansRun_of_sansCues (Part.postAtTake_sansCues _ p)]
    split
    · simp
    · rw [Part.claimRequests_sansRun]; simp

/-- An automatic end with no NEXT entry (R92). -/
@[simp] theorem Part.endWithoutTake_sansRun (s : Part) (p : ProgId) (e : Entry) :
    (s.endWithoutTake p e).sansRun = s.sansRun := by
  unfold Part.endWithoutTake
  dsimp only
  rw [Part.selectNext_sansRun, Part.letGo_sansRun]
  split <;> simp

/-- The automatic-end test (R91). -/
@[simp] theorem Part.automaticEnd_sansRun (s : Part) (p : ProgId) : (s.automaticEnd p).sansRun = s.sansRun := by
  unfold Part.automaticEnd
  split
  · rfl
  · split
    · split <;> simp
    · rfl

@[simp] theorem Part.releaseAll_sansCues (s : Part) (p : ProgId) : (s.releaseAll p).sansCues = s.sansCues :=
  Part.forEach_same Part.sansCues _ (fun c t => Part.releaseRequest_sansCues t p c) _ _

/-- END_SHOW (R98). -/
@[simp] theorem Part.endShow_sansRun (s : Part) (p : ProgId) : (s.endShow p).sansRun = s.sansRun := by
  unfold Part.endShow
  simp only [apply_ite Part.sansRun, Part.sansRun_of_sansCues (Part.echoClears_sansCues _ _ _ _),
    Part.sansRun_of_sansCues (Part.releaseAll_sansCues _ _), Part.onRunner_sansRun, Part.endAiring_sansRun, ite_self]

/-! ### Parking (R99 to R101) -/

@[simp] theorem Part.echoEmpty_sansCues (s : Part) (p : ProgId) : (s.echoEmpty p).sansCues = s.sansCues := rfl
@[simp] theorem Part.tablesEmpty_sansCues (s : Part) (p : ProgId) : (s.tablesEmpty p).sansCues = s.sansCues := rfl

@[simp] theorem Part.enterParked_sansRun (s : Part) (p : ProgId) : (s.enterParked p).sansRun = s.sansRun := by
  unfold Part.enterParked
  dsimp only
  rw [Part.selectNext_sansRun]
  exact Part.forEach_same Part.sansRun _ (fun c t => Part.onChannel_sansRun t c _) _ _

@[simp] theorem Part.parkTest_sansRun (s : Part) (p : ProgId) : (s.parkTest p).sansRun = s.sansRun := by
  unfold Part.parkTest; split <;> simp

@[simp] theorem Part.park_sansRun (s : Part) (p : ProgId) : (s.park p).sansRun = s.sansRun := by
  unfold Part.park; simp

@[simp] theorem Part.cancelPark_sansRun (s : Part) (p : ProgId) : (s.cancelPark p).sansRun = s.sansRun := by
  unfold Part.cancelPark; simp

@[simp] theorem Part.unpark_sansRun (s : Part) (p : ProgId) : (s.unpark p).sansRun = s.sansRun := by
  unfold Part.unpark; simp

@[simp] theorem Part.leaveParking_sansRun (s : Part) (p : ProgId) : (s.leaveParking p).sansRun = s.sansRun := by
  unfold Part.leaveParking; split <;> simp

/-! ### Hard starts (R93, R94) -/

@[simp] theorem Part.dropPassed_sansRun (s : Part) (p : ProgId) (e : Entry) : (s.dropPassed p e).sansRun = s.sansRun :=
  rfl

@[simp] theorem Part.raiseMissed_sansRun (s : Part) (p : ProgId) (tag : Nat) :
    (s.raiseMissed p tag).sansRun = s.sansRun := rfl

@[simp] theorem Part.hardTake_sansRun (s : Part) (p : ProgId) (e : Entry) : (s.hardTake p e).sansRun = s.sansRun := by
  unfold Part.hardTake
  dsimp only
  rw [Part.take_sansRun, Part.forEach_same Part.sansRun _ (fun x t => Part.dropPassed_sansRun t p x)]
  split <;> simp

@[simp] theorem Part.hardStartTake_sansRun (s : Part) (p : ProgId) : (s.hardStartTake p).sansRun = s.sansRun := by
  unfold Part.hardStartTake; split <;> simp

@[simp] theorem Part.hardStarts_sansRun (s : Part) (p : ProgId) : (s.hardStarts p).sansRun = s.sansRun := by
  unfold Part.hardStarts
  dsimp only
  split
  · rw [Part.hardTake_sansRun]
    exact Part.forEach_same Part.sansRun _ (fun (x : Entry) t => Part.raiseMissed_sansRun t p x.tag) _ _
  · exact Part.forEach_same Part.sansRun _ (fun (x : Entry) t => Part.raiseMissed_sansRun t p x.tag) _ _

/-! ### Holds (R89, R90) -/

/-- A hold changes the program's record alone. -/
theorem Part.hold_runner (s : Part) (p : ProgId) :
    s.hold p = s.onRunner p (fun r => { r with state := .held, held := s.elapsed p }) := rfl

@[simp] theorem Part.hold_sansRun (s : Part) (p : ProgId) : (s.hold p).sansRun = s.sansRun := rfl

@[simp] theorem Part.releaseHold_sansRun (s : Part) (p : ProgId) : (s.releaseHold p).sansRun = s.sansRun := by
  unfold Part.releaseHold; split <;> rfl

end Sys2Proof.Machine
end

