-- ==== Sys2Proof/Tests/Slice0.lean ====
section
/-! SUPPORT. Tests of the model, and witnesses of the statements. Expected results come from the spec's worked examples
and tables; a `witness_` theorem shows a concrete state and operands that meet the hypotheses of a statement, clause by
clause, at the ends of their ranges. -/

namespace Sys2Proof.Tests

set_option Elab.async false

open Machine

/-! ### Small states -/

/-- A gallery controller at node 1 with a message tag. -/
def o : Origin := { source := 1, tag := 0x11 }

/-- The state after reset with its part changed. -/
def after (f : Part → Part) : State := State.reset.onPart f

/-- An entry of record 7. -/
def en (tag : Nat) (st : EntryState) : Entry :=
  { tag := tag, record := 7, state := st, breaking := false, takeFrame := if st = .onAir then some 0 else none
    actual := none, airings := 0 }

/-- Program A with a list, a take mark and a state. -/
def listed (es : List Entry) (mark : Option Nat) (st : ProgState) (s : Part) : Part :=
  (s.onRundown 0 (fun _ => { entries := es, mark := mark })).onRunner 0 (fun r => { r with state := st })

/-- Program A RUNNING with entry 1 on air, 2 NEXT, 3 PENDING, 4 DONE before them and 5 DROPPED. -/
def running : Part → Part :=
  listed [en 4 .done, en 1 .onAir, en 2 .next, en 3 .pending, en 5 .dropped] (some 1) .running

/-- Record 7 READY, with a number of links. -/
def ready (links : Nat) (s : Part) : Part := s.onRecord 7 (fun r => { r with state := .ready, links := links })

/-- Record 8 in a state. -/
def rec8 (st : RecState) (links : Nat) (s : Part) : Part :=
  s.onRecord 8 (fun r => { r with state := st, links := links })

/-- A channel configuration with a kind and a slot. -/
def config (k : ChanKind) (slot : Nat) (shareable : Bool) : ChanConfig :=
  { kind := k, slot := slot, node := 20, shareable := shareable, ackWindow := 3, rollGrace := 2, staleLimit := 5 }

/-- Channel 1 configured and changed. -/
def chan1 (g : ChanConfig) (f : Channel → Channel) (s : Part) : Part :=
  s.onChannel 0 (fun c => f { c with config := some g, health := .online })

/-- A row of an event status table for channel 1. -/
def row (a : Anchor) (act : Action) (st : RowOutcome) : Row :=
  { anchor := a, channel := 0, action := act, param := 0, offset := 0, asset := 9, due := some 0, outcome := st
    held := none, heldAt := 0, posting := none }

/-- Program A's ON_AIR table. -/
def table (rows : List Row) (s : Part) : Part :=
  s.onFiring 0 (fun f => { f with onAir := { tag := 1, prompter := 0, rows := rows } })

/-- Line 1 with a function, changed. -/
def line1 (fn : LineFn) (f : Line → Line) (s : Part) : Part :=
  s.onLine 0 (fun l => f { l with config := { l.config with fn := fn } })

/-- A marker cell at 25 fps. -/
def marker (hh mm ss ff : Byte) : Cell := makeCell 1 63 0 0 128 [hh, mm, ss, ff, 0, 0, 7]

/-- A LOCKED frame with the next slot at a position. -/
def locked (pos : Nat) (s : Part) : Part :=
  s.onPort (fun p => { p with lock := .locked, lockedFrame := true, frameWasLocked := true,
                              beganLocked := true, position := some pos })

/-- What a row leaves of the part. -/
def run (i : Instr) (s : State) : State := match exec i s with | .next t => t | _ => s

/-! ### Well-formedness: each check refuses an ill-formed row -/

theorem test_wf_marker : wellFormed (.markerArrival emptyCell 0) = false
    ∧ wellFormed (.markerArrival (marker 0 0 0 0) 0) = true := by decide
theorem test_wf_cell : wellFormed (.cellArrival (marker 0 0 0 0)) = false
    ∧ wellFormed (.responseCellSend (marker 0 0 0 0)) = false ∧ wellFormed (.cellArrival emptyCell) = true := by decide
theorem test_wf_unknown : wellFormed (.unknownCommand o [0x31, 0]) = false
    ∧ wellFormed (.unknownCommand o (List.replicate 193 0)) = false ∧ wellFormed (.unknownCommand o [0x31]) = true := by
  decide +kernel
theorem test_wf_slots : wellFormed (.setSlots o 1 (List.replicate 190 0)) = false
    ∧ wellFormed (.setSlots o 1 (List.replicate 189 0)) = true := by decide +kernel
theorem test_wf_setting : wellFormed (.writeStorySetting o 7 10 0 []) = false
    ∧ wellFormed (.writeStorySetting o 7 9 0 []) = true := by decide
theorem test_wf_data : wellFormed (.writeStorySetting o 7 1 0 (List.replicate 188 0)) = false
    ∧ wellFormed (.writeStoryEventSlot o 7 0 (List.replicate 188 0)) = false
    ∧ wellFormed (.writeStoryText o 7 .slug 0 (List.replicate 188 0)) = false
    ∧ wellFormed (.writeStoryText o 7 .slug 0 (List.replicate 187 0)) = true := by decide +kernel
theorem test_wf_pairs : wellFormed (.appendEntries o 0 []) = false
    ∧ wellFormed (.appendEntries o 0 (List.replicate 31 (1, 7))) = false
    ∧ wellFormed (.appendEntries o 0 (List.replicate 30 (1, 7))) = true := by decide +kernel
theorem test_wf_missed : wellFormed (.hardStartMissed 0 0) = false ∧ wellFormed (.hardStartMissed 0 1) = true := by
  decide

/-! ### Cells, messages and the table's words -/

/-- R2: the COMMAND cell of the example has the check 0x5CE8, and EMPTY cells 0xFFFF. -/
theorem test_check : (makeCell 2 5 1 0x11 128 [0x20]).check = 0x5CE8 ∧ emptyCell.check = 0xFFFF := by decide +kernel

/-- R193: payloads written out from the parameter table. -/
theorem test_parse_take : parseCommand [0x30, 1, 0x01, 0x2C] = .ok (.take 1 300) := rfl
theorem test_parse_program : parseCommand [0x38, 2, 3, 0, 0, 1, 0x2C, 0, 30, 0, 10, 1, 9]
    = .ok (.setProgram 2 3 300 30 10 1 9) := rfl
theorem test_parse_append : parseCommand [0x21, 1, 2, 0x01, 0x2C, 7, 0x01, 0x2D, 8]
    = .ok (.appendEntries 1 [(300, 7), (301, 8)]) := rfl
theorem test_parse_length : parseCommand [0x30, 1, 0x01] = .error 1 ∧ parseCommand [0x7F] = .error 0
    ∧ parseCommand [] = .error 2 := ⟨rfl, rfl, rfl⟩

/-- The opcode table gives the rows no bits, so a word spells no command. -/
theorem test_no_words : decodeTableWord 8 0x31 = none ∧ State.reset.withFetchWord 8 0x31 = State.reset := by
  exact ⟨rfl, rfl⟩

/-! ### Frame time: the worked examples of chapter 2 -/

theorem test_label_range : labelInRange .r50 ⟨10, 15, 0, 50⟩ = false ∧ labelInRange .r60 ⟨10, 15, 0, 50⟩ = true
    ∧ labelInRange .r60 ⟨24, 0, 0, 0⟩ = false := by decide
theorem test_label_day : labelDay .r25 ⟨18, 21, 40, 0⟩ = 1652500 ∧ labelDay .r60 ⟨23, 59, 59, 59⟩ = 5183999
    ∧ labelDay .r30df ⟨16, 40, 0, 1⟩ = 1798201 ∧ labelDay .r60df ⟨1, 11, 0, 4⟩ = 255348 := by decide
theorem test_label_skipped : labelDay .r30df (labelRead .r30df ⟨0, 1, 0, 0⟩) = 1800
    ∧ labelDay .r30df (labelRead .r30df ⟨0, 1, 0, 1⟩) = 1800 ∧ labelSkipped .r30df ⟨0, 10, 0, 0⟩ = false := by decide
theorem test_day_label : dayLabel .r25 1657250 = ⟨18, 24, 50, 0⟩ ∧ dayLabel .r30df 1800 = ⟨0, 1, 0, 2⟩
    ∧ dayLabel .r60df 5178815 = ⟨23, 59, 59, 59⟩ := by decide
theorem test_signed_diff : signedDiff .r25 1661000 1665000 = -4000 ∧ signedDiff .r25 250 2159850 = 400
    ∧ signedDiff .r30df 0 1294704 = 1294704 ∧ signedDiff .r30df 1294704 0 = 1294704 := by decide
theorem test_to_seconds : toSeconds .r30df 1308 = 43 ∧ toSeconds .r30df (-30) = -1 ∧ toSeconds .r30df (-29) = 0
    ∧ toSeconds .r25 1000000 = 32767 ∧ toSeconds .r60 (-2589407) = -32767 := by decide
theorem test_to_frames : secondsToFrames .r60df 30 = 1799 ∧ secondsToFrames .r30df 600 = 17983
    ∧ secondsToFrames .r60df 600 = 35965 := by decide
theorem test_limits : pMax .r30df = 107892 ∧ halfDay .r60df = 2589407 ∧ pMax .r60df = 215784 := by decide
theorem test_estimate : estimate .r25 120 24 0 = 1000 ∧ estimate .r30df 120 22 0 = 1308
    ∧ estimate .r60df 45 24 30 = 930 ∧ estimate .r25 3 24 50 = 75 := by decide

/-- R52: "Rain[PAUSE]fell." is 2 words, "[A [B] C] D" 2, "Good evening [ROLL VT" 2. -/
theorem test_words :
    countWords false false [0x52, 0x61, 0x5B, 0x50, 0x5D, 0x66, 0x2E] = 2
      ∧ countWords false false [0x5B, 0x41, 0x20, 0x5B, 0x42, 0x5D, 0x20, 0x43, 0x5D, 0x20, 0x44] = 2
      ∧ countWords false false [0x47, 0x20, 0x65, 0x20, 0x5B, 0x52, 0x20, 0x56] = 2 := by decide

/-! ### One command each -/

/-- R76, R81, R88: a TAKE puts the NEXT entry on air, the one on air goes DONE with its elapsed, the first PENDING entry
behind becomes NEXT. -/
theorem test_take : let t := run (.take o 0 0) (after (ready 5 ∘ running ∘ (Part.onClock · (fun c => { c with frame := 40 }))));
    ((t.rundown 0).entries.map (fun e => e.state) = [.done, .done, .onAir, .next, .dropped])
      ∧ (t.rundown 0).mark = some 2 ∧ ((t.rundown 0).entries.map Entry.actual) = [none, some 40, none, none, none] := by
  decide +kernel

/-- R68: program B holds 126 entries; the tags 300, 301, 300 give RANGE detail 3 with two pairs applied, and 300, 301,
302 give FULL detail 8. -/
def full126 : State :=
  after (ready 126 ∘ (Part.onRundown · 1 (fun _ => { entries := (List.range 126).map (fun i => en (i + 1) .done), mark := none })))
theorem test_append_repeated : (cmdAppendEntries 1 [(300, 7), (301, 7), (300, 7), (302, 7)] full126.toPart).2
    = Reply.refuse .range 3 [2, 128, 0, 128, 1, 44] := by decide +kernel
theorem test_append_full : (cmdAppendEntries 1 [(300, 7), (301, 7), (302, 7), (303, 7)] full126.toPart).2
    = Reply.refuse .full 8 [2, 128, 0, 128, 1, 44] := by decide +kernel

/-- 10.1's full queue: MARKER_ADJUSTED is discarded with NOTICES_LOST set; TIMING_SATURATED for B counts; NO_ACK enters
after its equals and the last TIMING_SATURATED is removed. -/
def fullQueue : List Notice :=
  let n (k : NoticeKind) (p : Option ProgId) (c : Option Nat) : Notice :=
    { kind := k, subject := { program := p, channel := c }, first := 1, count := 1 }
  n .trunkLost none none :: ((List.range 3).map (fun i => n .noAck none (some i))
    ++ (List.range 24).map (fun i => n .intakeOverrun none (some i)) ++ allPrograms.map (fun p => n .timingSaturated (some p) none))
theorem test_full_queue_discards : noticeRaise .markerAdjusted {} 9 fullQueue false = (fullQueue, true) := by
  decide +kernel
theorem test_full_queue_counts :
    ((noticeRaise .timingSaturated { program := some 1 } 9 fullQueue true).1.map Notice.count).drop 28 = [1, 2, 1, 1] := by
  decide +kernel
theorem test_full_queue_displaces :
    let r := (noticeRaise .noAck { program := some 0, tag := some 40, channel := some 5 } 9 fullQueue true).1
    r.length = 32 ∧ (r.take 6).map Notice.kind = [.trunkLost, .noAck, .noAck, .noAck, .noAck, .intakeOverrun]
      ∧ r.getLast? = fullQueue[30]? := by decide +kernel

/-- Chapter 11: program A RUNNING in LIVE with tag 30 on air and 40 seconds under writes 0x01, 0x00, 0x1E, 0xFF, 0xD8. -/
theorem test_status_program :
    let s := (listed [en 30 .onAir] (some 30) .running (Part.reset 5)).onTiming 0 (fun t => { t with oShow := some (-1000) })
    ((cellData s.statusCell).drop 2).take 5 = [0x01, 0x00, 0x1E, 0xFF, 0xD8] := by decide +kernel

theorem test_hold : ((run (.hold o 0) (after (running ∘ (Part.onClock · (fun c => { c with frame := 9 }))))).runner 0).held
    = some 9 := by decide +kernel
theorem test_drop_next : let t := run (.dropEntry o 0 2) (after running);
    (t.rundown 0).entries.map (fun e => e.state) = [.done, .onAir, .dropped, .next, .dropped] := by decide +kernel
theorem test_trim_unlinks : ((run (.trimDone o 0) (after (ready 5 ∘ running))).record 7).links = 4 := by decide +kernel
theorem test_write_text :
    let t := run (.writeStoryText o 7 .note 1 [0x41, 0x42]) (after (Part.onRecord · 7 (fun _ => Record.openedWith 3 2 0)))
    (t.record 7).byteAt 228 = 0x41 ∧ (t.record 7).byteAt 229 = 0
      ∧ (t.intake.replies.map (fun r => r.payload[1]?)) = [some 1] := by decide +kernel
theorem test_open_story : let t := run (.openStory o 3 2 0x0104) (after (ready 0 ∘ (Part.onRecord · 0 (fun _ => Record.openedWith 0 0 0))));
    ((t.record 1).content.readAll 28 4) = [3, 2, 1, 4] ∧ (t.record 1).state = .opened := by decide +kernel
theorem test_configure : ((run (.configureChannel o 1 0 5 20 0 3 2 5) State.reset).channel 0).pending = some (config .clip 5 false) := by
  decide +kernel
theorem test_line_inverts :
    let t := run (.driveLine o 1 1) (after (line1 .manualOut (fun l =>
      { l with config := { l.config with fn := .manualOut, polarity := .activeOpen } })))
    (t.line 0).output = some true ∧ (t.line 0).driven = some false := by decide +kernel
theorem test_repeater : (run (.cellArrival (makeCell 2 5 1 0x11 128 [0x20])) (after (Part.onPort · (fun p => { p with node := 0 })))).port.trunkOut
    = some (makeCell 2 5 1 0x11 128 [0x20]) := by decide +kernel
theorem test_idle : step State.reset = .next State.reset := rfl

/-- R13: with the reply slots 20 and 10 in that order, slot 10 goes out EMPTY and slot 20 carries the response. -/
theorem test_reply_order :
    let r : Response := { dest := 1, tag := 2, payload := [0x31, 0], sent := 0 }
    let s (pos : Nat) := after (fun x => ((locked pos x).onIntake (fun k => { k with replies := [r] })).onPort
      (fun p => { p with slots := { status := 0, replies := [20, 10] } }))
    (run (.cellArrival emptyCell) (s 10)).port.trunkOut = some emptyCell
      ∧ (run (.cellArrival emptyCell) (s 20)).port.trunkOut = some (makeCell 3 1 5 2 128 [0x31, 0]) := by decide +kernel

/-- R65: an APPEND_ENTRIES stopped by a record that is not READY names the record behind the data of R68. -/
theorem test_append_record : (cmdAppendEntries 1 [(300, 7), (301, 9)] full126.toPart).2
    = Reply.refuse .notFound 10 [1, 127, 0, 129, 1, 44, 9] := by decide +kernel

/-- R137: a ROLL held at a frame start is not counted at that frame start, and is at the next one. -/
theorem test_held_counts_later :
    let s (frame : Nat) := after (table [{ row .fromTake .roll .waiting with held := some 0, heldAt := 5 }] ∘ running
      ∘ (Part.onClock · (fun c => { c with frame := frame })))
    (((s 5).toPart.testHeld 0 .onAir 0).firing 0).onAir.rows.map Row.held = [some 0]
      ∧ (((s 6).toPart.testHeld 0 .onAir 0).firing 0).onAir.rows.map Row.outcome = [.notReady] := by decide +kernel

/-- R185: after a RESET_NODE in a LOCKED frame the status cell still carries the count at that frame's start. -/
theorem test_status_tag :
    let s := after (fun x => (locked 3 x).onPort (fun p => { p with frameTag := 9 }))
    (run (.resetNode o) s).toPart.statusCell.tag = 9 ∧ (run (.resetNode o) s).clock.frame = 0 := by decide +kernel

/-- R121: a FROM_END row is due by the P last handed on (50) at a TAKE, by the P of the frame start (1) at an automatic
end. -/
theorem test_take_p :
    let s := after (fun x => ((((x.onRecord 7 (fun r => (Record.put { r with state := .ready, links := 5 } 9 [1]).put 14
      [0, 0, 0, 1])) |> running).onClock (fun c => { c with frame := 1 })).onTiming 0 (fun t =>
      { t with rows := [{ tag := 2, p := 50, front := 0, back := none }] })).onFiring 0 (fun f =>
        { f with next := { tag := 2, prompter := 0, rows := [{ row .fromEnd .stop .waiting with due := none, offset := 1 }] } }))
    let dues (t : State) := (t.firing 0).onAir.rows.map Row.due
    dues (run (.take o 0 0) s) = [some 49] ∧ dues (run (.automaticEnd 0) s) = [some 0] := by decide +kernel

/-- R127, R133: the outcome of the first firing of a MANUAL ROLL is recorded while it is in flight, and discarded when the
row has been fired again and is held, given up or SKIPPED. -/
theorem test_fired_again :
    let r (out : RowOutcome) (h : Option Nat) : Row := { row .manual .roll out with posting := some 3, held := h }
    let s := (table [r .issued none, r .posted (some 0), r .notReady none, r .skipped none] (Part.reset 5)).report 0 (some 3) .acked
    (s.firing 0).onAir.rows = [r .acked none, r .posted (some 0), r .notReady none, r .skipped none] := by decide +kernel

/-- R192: in READ of NODE a presence byte stands before the optional status slot, in effect and pending. -/
theorem test_read_node_slots :
    slotBytes { status := 0, replies := [20] } = [0, 0, 1, 20] ∧ slotBytes { status := 9, replies := [] } = [1, 9, 0] := by
  decide

/-! ### Witnesses of the statements: states and operands that meet their hypotheses -/

/-- Command messages reach an idle, active part after reset. -/
theorem witness_Listening : Listening State.reset.toPart := by decide
theorem witness_StepRunsFrontCommand : { State.reset with pending := [.readNode o] : State }.pending = .readNode o :: []
    ∧ State.reset.pending = [] := ⟨rfl, rfl⟩

/-- In reset, and with the straps at 0 and at 63. -/
theorem witness_ResetPinAndRepeaterOnlyForward :
    (after (Part.onPort · (fun p => { p with resetAsserted := true }))).active = false
      ∧ (after (Part.onPort · (fun p => { p with node := 0 }))).active = false
      ∧ (after (Part.onPort · (fun p => { p with node := 63 }))).active = false ∧ isPinOrCell (.hold o 0) = false
      ∧ (after (Part.onPort · (fun p => { p with node := 62 }))).active = true := by decide
theorem witness_ResetNodeKeepsLockSlotsAndRate : Listening State.reset.toPart := witness_Listening
theorem witness_TickStartsUnlockedFrame : State.reset.active = true ∧ State.reset.clock.pendingRate = none := by decide
/-- The tick, and the marker of the day frame expected, with a rate and a full change of a channel waiting. -/
theorem witness_FrameStartPutsAcceptedSettingsIntoEffect :
    let s := after (fun x => chan1 (config .clip 2 false) (fun c => { c with pending := some (config .graphic 3 true) })
      ((locked 0 x).onClock (fun c => { c with pendingRate := some .r50 })))
    s.active = true ∧ GivesFrameStart (.internalTick 0) s.toPart ∧ s.clock.pendingRate.isSome = true
      ∧ (isMarker (marker 0 0 0 1) = true ∧ s.port.position = some 0 ∧ markerValid s.clock.rate (marker 0 0 0 1) = true
        ∧ s.port.lock = .locked ∧ markerDay s.clock.rate (marker 0 0 0 1) = (s.clock.day + 1) % rateDay s.clock.rate)
      ∧ (s.channel 0).config = some (config .clip 2 false) ∧ fullChange (config .clip 2 false) (config .graphic 3 true) = true
      ∧ (s.channel 0).idle = true := by
  exact ⟨by decide, trivial, by decide +kernel⟩

/-- The three ways a marker begins a LOCKED frame: the expected one, one in FLYWHEEL, the third of a run. -/
theorem witness_MarkerBeginsLockedFrame :
    let c := marker 0 0 0 1
    let d := markerDay .r25 c
    isMarker c = true ∧ markerValid .r25 c = true ∧ d = 1 ∧ State.reset.clock.rate = .r25
      ∧ State.reset.port.position = none ∧ (locked 0 (Part.reset 5)).port.position = some 0
      ∧ (locked 0 (Part.reset 5)).port.lock = .locked ∧ d = ((locked 0 (Part.reset 5)).clock.day + 1) % rateDay .r25
      ∧ (after (Part.setLock · (.flywheel 11))).port.lock = .flywheel 11
      ∧ (after (Part.setLock · (.seeking 2))).port.lock = .seeking 2
      ∧ d = ((after (Part.setLock · (.seeking 2))).port.runDay + 1) % rateDay .r25
      ∧ 5 ≠ (State.reset.clock.day + 1) % rateDay .r25 ∧ ¬ 1 ≠ (State.reset.clock.day + 1) % rateDay .r25 := by
  decide +kernel

/-- Markers for each clause: invalid, expected or not, in every lock state. -/
theorem witness_OtherMarkersGiveNoFrameStart :
    let bad := marker 24 0 0 0
    let one := marker 0 0 0 1
    let five := marker 0 0 0 5
    let same := marker 0 0 0 0
    isMarker bad = true ∧ cellGood bad = true ∧ markerValid .r25 bad = false ∧ markerValid .r25 one = true
      ∧ markerValid .r25 five = true ∧ markerDay .r25 five = 5 ∧ markerDay .r25 one = 1 ∧ markerDay .r25 same = 0
      ∧ State.reset.clock.day = 0 ∧ State.reset.port.runDay = 0 ∧ State.reset.port.position = none
      ∧ State.reset.port.lock = .seeking 0 ∧ (after (Part.setLock · .lost)).port.lock = .lost
      ∧ (after (Part.setLock · (.seeking 1))).port.lock = .seeking 1
      ∧ (after (Part.setLock · (.flywheel 1))).port.lock = .flywheel 1
      ∧ (after (Part.setLock · .locked)).port.lock = .locked := by decide +kernel

/-- A marker of another rate, one with a label that does not exist, a bad one, and early ones after slots 0 and 46. -/
theorem witness_OtherMarkers_notices :
    let other := makeCell 1 63 0 0 128 [0, 0, 0, 1, 0, 3, 7]
    let skipped := makeCell 1 63 0 0 128 [0, 1, 0, 0, 1, 1, 7]
    let bad : Cell := { marker 0 0 0 1 with check := 0 }
    cellGood other = true ∧ markerRate other ≠ Rate.r25.code ∧ markerValid .r25 other = false
      ∧ markerValid .r30df skipped = true ∧ labelSkipped .r30df (markerLabel skipped) = true
      ∧ isMarker bad = true ∧ cellGood bad = false ∧ State.reset.port.position = none
      ∧ (after (locked 1)).port.position = some (0 + 1) ∧ (after (locked 47)).port.position = some (46 + 1) := by
  decide +kernel

/-- Slots 1 and 47, an unknown position, slot 0 without its marker, and an early marker. -/
theorem witness_CellsOutsideLockedFramesPass :
    State.reset.active = true ∧ State.reset.intake.queue = [] ∧ State.reset.port.lockedFrame = false
      ∧ isMarker emptyCell = false ∧ isMarker (marker 0 0 0 1) = true
      ∧ cellGood { marker 0 0 0 1 with check := 0 } = false
      ∧ (after (Part.setPosition · (some 1))).port.position = some (0 + 1)
      ∧ (after (Part.setPosition · (some 47))).port.position = some (46 + 1)
      ∧ (after (Part.setPosition · (some 0))).port.position = some 0 ∧ State.reset.port.position = none := by
  decide +kernel

/-- A LOCKED frame whose slot 1 is the status slot, slot 47 a reply slot, slot 2 channel 1's. -/
def slotted (pos : Nat) : State :=
  after (fun s => chan1 (config .clip 2 false) id
    ((locked pos s).onPort (fun p => { p with slots := { status := 1, replies := [47] } })))

theorem witness_StatusSlotCarriesStatusCell : (slotted 1).active = true ∧ (slotted 1).intake.queue = []
    ∧ (slotted 1).port.lockedFrame = true ∧ (slotted 1).port.position = some (0 + 1)
    ∧ 0 + 1 = (slotted 1).port.slots.status ∧ isMarker emptyCell = false ∧ (slotted 1).addressed emptyCell = false := by
  decide +kernel

/-- A response of two cells waits: in reply slot 47, and in an EMPTY cell without reply slots. -/
theorem witness_ReplySlotCarriesNextResponse :
    let r : Response := { dest := 1, tag := 2, payload := List.replicate 25 0, sent := 1 }
    let s := (slotted 47).onPart (Part.onIntake · (fun k => { k with replies := [r] }))
    let u := (slotted 3).onPart (fun x => (x.onIntake (fun k => { k with replies := [r] })).onPort
      (fun p => { p with slots := { status := 0, replies := [] }, emptyUsed := 1 }))
    s.active = true ∧ s.intake.queue = [] ∧ s.port.lockedFrame = true ∧ s.port.position = some (46 + 1)
      ∧ s.intake.replies = r :: [] ∧ r.sent < fragmentCount r.payload ∧ fragmentCount r.payload ≤ 8
      ∧ 46 + 1 ∈ s.port.slots.replies ∧ 46 + 1 ≠ s.port.slots.status ∧ s.addressed emptyCell = false
      ∧ u.port.position = some (2 + 1) ∧ u.ownerOf (2 + 1) = none ∧ u.port.slots.replies = [] ∧ emptyCell.kind = 0
      ∧ cellGood emptyCell = true ∧ u.port.emptyUsed < 2 := by decide +kernel

/-- An EMPTY cell for the part, where it makes way for a response cell. -/
theorem witness_ReplySlot_addressed :
    let a := makeCell 0 5 1 0 128 []
    isMarker a = false ∧ a.kind = 0 ∧ cellGood a = true ∧ a.length.toNat ≤ 24 ∧ (slotted 3).addressed a = true
      ∧ (slotted 47).addressed a = true ∧ (slotted 3).ownerOf (2 + 1) = none ∧ (slotted 3).intake.replies = [] := by
  decide +kernel

/-- In the list 20, 10 slot 20 has its turn and slot 10 has not; slot 47 alone has its turn with no response waiting. -/
theorem witness_ReplySlot_turn :
    (∀ m ∈ ([20, 10] : List Nat).takeWhile (fun m => m != 19 + 1), m < 19 + 1)
      ∧ ¬ (∀ m ∈ ([20, 10] : List Nat).takeWhile (fun m => m != 9 + 1), m < 9 + 1)
      ∧ (∀ m ∈ (slotted 47).port.slots.replies.takeWhile (fun m => m != 46 + 1), m < 46 + 1)
      ∧ (slotted 47).intake.replies = [] := by decide +kernel

theorem witness_ChannelSlotCarriesTriggerCell :
    let kept := after (fun s => (locked 2 s).onChannel 0 (fun c => { c with keptSlot := 2 }))
    (slotted 2).active = true ∧ (slotted 2).port.lockedFrame = true ∧ (slotted 2).port.position = some (1 + 1)
      ∧ (slotted 2).ownerOf (1 + 1) = some (.channel 0) ∧ ((slotted 2).channel 0).config = some (config .clip 2 false)
      ∧ kept.ownerOf (1 + 1) = some (.channel 0) ∧ (kept.channel 0).config = none
      ∧ isMarker emptyCell = false ∧ kept.addressed emptyCell = false := by decide +kernel

/-- A device reply of channel 1's device, whose serial is the awaited command's. -/
theorem witness_DeviceReplyReachesItsChannel :
    let a := makeCell 5 5 20 0 128 [1, 0, 3, 0xFF, 0xFF, 0xFF, 0]
    let s := (slotted 47).onPart (Part.onChannel · 0 (fun c =>
      { c with current := { c.current with standing := .awaiting, program := some 0, posting := some 4 } }))
    s.active = true ∧ s.intake.queue = [] ∧ s.port.lockedFrame = true ∧ s.port.position = some (46 + 1) ∧ a.kind = 5
      ∧ s.addressed a = true ∧ cellGood a = true ∧ 7 ≤ a.length.toNat ∧ a.length.toNat ≤ 24
      ∧ chanOf (cellByte a 6) = some 0 ∧ (s.channel 0).config = some (config .clip 2 false)
      ∧ (config .clip 2 false).node = a.source.toNat ∧ (s.channel 0).current.serial = cellByte a 7
      ∧ (s.channel 0).current.standing = .awaiting ∧ (s.channel 0).current.voided = false := by decide +kernel

/-- The acknowledgement of the release CLEAR of a RELEASING claim, with another program waiting. -/
theorem witness_DeviceReply_release :
    let s := (slotted 47).onPart (Part.onChannel · 0 (fun c => { c with
      claim := .releasing 0, waiting := [(1, 0)]
      current := { c.current with standing := .awaiting, program := some 0, isRelease := true, action := .clear } }))
    ReleasesOk s.toPart ∧ (s.channel 0).current.standing = .awaiting ∧ (s.channel 0).current.isRelease = true
      ∧ (s.channel 0).current.program = some 0 ∧ (s.channel 0).claim = .releasing 0 ∧ (s.channel 0).release = none
      ∧ (s.channel 0).config = some (config .clip 2 false) := by decide +kernel
/-- Device replies of six bytes, of channel 25 and of another node, and a response cell for the part. -/
theorem witness_DeviceReply_discarded :
    let s := slotted 3
    let short := makeCell 5 5 20 0 128 [1, 0, 3, 0, 0, 0]
    let beyond := makeCell 5 5 20 0 128 [25, 0, 3, 0, 0, 0, 0]
    let other := makeCell 5 5 21 0 128 [1, 0, 3, 0, 0, 0, 0]
    let response := makeCell 3 5 1 0 128 [0x31, 0]
    (∀ a ∈ [short, beyond, other, response], isMarker a = false ∧ s.addressed a = true ∧ cellGood a = true
        ∧ a.length.toNat ≤ 24)
      ∧ short.length.toNat < 7 ∧ chanOf (cellByte beyond 6) = none ∧ chanOf (cellByte other 6) = some 0
      ∧ (s.channel 0).config.map ChanConfig.node ≠ some other.source.toNat ∧ response.kind = 3
      ∧ s.ownerOf (2 + 1) = none := by decide +kernel

/-- A bad cell, one of 25 bytes, and a good command cell for the part in its own status slot. -/
theorem witness_DeviceReply_otherCells :
    let a := makeCell 2 5 1 0x11 128 [0x20]
    let long : Cell := { a with length := 25, check := checkOf (cellBody { a with length := 25 }) }
    let s := slotted 47
    cellGood { a with check := 0 } = false ∧ cellGood long = true ∧ 24 < long.length.toNat ∧ isMarker a = false
      ∧ s.addressed { a with check := 0 } = true ∧ s.addressed long = true ∧ (slotted 3).ownerOf (2 + 1) = none
      ∧ (slotted 3).port.position = some (2 + 1) ∧ a.kind ≠ 0 ∧ s.ownerOf (46 + 1) = some .reply
      ∧ (slotted 1).ownerOf (0 + 1) = some .status ∧ isMarker emptyCell = false ∧ s.addressed emptyCell = false := by
  decide +kernel

/-- A two-byte command, and one that fills the cell's 24 bytes. -/
theorem witness_CommandCellActsAsItsRow :
    let s := after (fun s => (locked 3 s).settleLines)
    let long := Instr.writeStoryText o 7 .slug 0 (List.replicate 19 0x41)
    messageOf (.hold o 0) = some (o, [0x31, 0]) ∧ wellFormed (.hold o 0) = true
      ∧ messageOf long = some (o, 0x11 :: 7 :: 11 :: 0 :: 0 :: List.replicate 19 0x41) ∧ wellFormed long = true
      ∧ (0x11 :: 7 :: 11 :: 0 :: 0 :: List.replicate 19 (0x41 : Byte)).length ≤ 24 ∧ Listening s.toPart
      ∧ LinesShown s.toPart ∧ s.port.lockedFrame = true ∧ s.port.position = some (2 + 1) ∧ s.ownerOf (2 + 1) = none
      ∧ ∀ j, (s.intake.contexts.at j).map Assembly.source ≠ some o.source := by decide +kernel

/-- No context free for the source, context 3 the only free one, and context 0 gathering a message whose last fragment
completes it. -/
theorem witness_CommandCell_fragments :
    let other : Assembly := { source := 2, tag := 0x11, next := 1, payload := [], age := 3 }
    let mine : Assembly := { source := 1, tag := 0x11, next := 1, payload := 0x11 :: 7 :: 11 :: 0 :: 0 :: List.replicate 19 0x41, age := 3 }
    let s (cs : List (Option Assembly)) := after (fun s => ((locked 3 s).settleLines).onIntake (fun k =>
      { k with contexts := Vector.ofFn (fun j => cs.getD j.val none) }))
    let full := s (List.replicate 4 (some other))
    let three := s (List.replicate 3 (some other))
    let m := s [some mine]
    (∀ j, full.intake.contexts.at j ≠ none) ∧ (∀ j, (full.intake.contexts.at j).map Assembly.source ≠ some o.source)
      ∧ three.intake.contexts.at 3 = none ∧ (∀ j : Fin 4, j < 3 → three.intake.contexts.at j ≠ none)
      ∧ m.intake.contexts.at 0 = some mine ∧ mine.source = o.source ∧ mine.tag = o.tag
      ∧ messageOf (.writeStoryText o 7 .slug 0 (List.replicate 20 0x41)) = some (o, mine.payload ++ [0x41])
      ∧ wellFormed (.writeStoryText o 7 .slug 0 (List.replicate 20 0x41)) = true
      ∧ (2 : Byte).toNat % 8 ≠ mine.next ∧ Listening m.toPart ∧ LinesShown m.toPart := by decide +kernel

/-- A command of one cell from a source that is already assembling. -/
theorem witness_CommandCell_replaces :
    let mine : Assembly := { source := 1, tag := 0x10, next := 1, payload := List.replicate 24 0, age := 3 }
    let s := after (fun s => ((locked 3 s).settleLines).onIntake (fun k => { k with contexts := k.contexts.set 0 (some mine) }))
    s.intake.contexts.at 0 = some mine ∧ mine.source = o.source ∧ messageOf (.hold o 0) = some (o, [0x31, 0])
      ∧ wellFormed (.hold o 0) = true ∧ Listening s.toPart ∧ LinesShown s.toPart ∧ s.port.lockedFrame = true
      ∧ s.port.position = some (2 + 1) ∧ s.ownerOf (2 + 1) = none := by decide +kernel

theorem witness_CommandsParseBack : (Command.setSlots 1 (List.replicate 189 2)).sendable = true
    ∧ (Command.appendEntries 0 (List.replicate 30 (1, 7))).sendable = true ∧ (Command.readUnknown 9).sendable = true
    ∧ (Command.writeStory 7 13 0 (List.replicate 187 0)).sendable = true := by decide +kernel
theorem witness_UnknownMessageIsMalformed : Listening State.reset.toPart ∧ payloadUnknown [] = true
    ∧ payloadUnknown [0x7F] = true ∧ payloadUnknown [0x30] = true := by decide +kernel
theorem witness_CommandWaitsBehindFullReplies :
    let r : Response := { dest := 1, tag := 2, payload := [], sent := 0 }
    let s (n : Nat) := after (Part.onIntake · (fun k =>
      { k with replies := List.replicate 16 r, queue := List.replicate n { origin := o, payload := [] } }))
    messageOf (.hold o 0) = some (o, [0x31, 0]) ∧ (s 31).active = true ∧ 16 ≤ (s 31).intake.replies.length
      ∧ (s 31).intake.queue.length < 32 ∧ 32 ≤ (s 32).intake.queue.length := by decide +kernel

/-- Slots at 1 and 47, rates 5 and 6, quiet and not. -/
theorem witness_SlotsAndRateAreCheckedThenPending :
    let s := State.reset
    let good (named : List Nat) : Prop := (∀ m ∈ named, 1 ≤ m ∧ m ≤ 47) ∧ named.Nodup
      ∧ ∀ m ∈ named, ∀ c, (s.channel c).slot ≠ m ∧ (s.channel c).pending.map ChanConfig.slot ≠ some m
          ∧ (s.channel c).keptNext ≠ some m
    Listening s.toPart ∧ good [1, 47] ∧ ¬ good [48] ∧ ¬ good [2, 2] ∧ (5 : Byte).toNat ≤ 5 ∧ 5 < (6 : Byte).toNat
      ∧ (∀ p, (s.runner p).state = .idle ∧ s.onAirEntry p = none ∧ s.nextEntry p = none)
      ∧ ((after running).runner 0).state = .running ∧ Listening (after running).toPart := by decide +kernel

theorem witness_TrunkRowsTakeEffect :
    let a : Assembly := { source := 1, tag := 2, next := 1, payload := [], age := 4 }
    State.reset.active = true ∧ State.reset.clock.pendingRate = none
      ∧ State.reset.port.lock = .seeking 0 ∧ State.reset.intake.contexts.at 3 = none
      ∧ (after (Part.onClock · (fun c => { c with pendingRate := some .r50 }))).clock.pendingRate = some .r50
      ∧ (after (Part.setLock · (.flywheel 12))).port.lock = .flywheel 12
      ∧ (after (Part.onIntake · (fun k => { k with contexts := k.contexts.set 3 (some a) }))).intake.contexts.at 3 = some a := by
  decide +kernel
theorem witness_ReadsAndAcknowledgementsAnswer : Listening State.reset.toPart
    ∧ 1 ≤ (180 : Byte).toNat ∧ (180 : Byte).toNat ≤ 180 ∧ (588 : Half).toNat + (180 : Byte).toNat ≤ 768
    ∧ (3 : ProgId).val = (3 : Byte).toNat ∧ (127 : Byte).toNat ≤ 127 ∧ TableKind.ofCode (1 : Byte).toNat = some .next
    ∧ (15 : Byte).toNat ≤ 15 ∧ (23 : ChanId).val + 1 = (24 : Byte).toNat ∧ (31 : LineId).val + 1 = (32 : Byte).toNat
    ∧ (31 : Byte).toNat ≤ 31 ∧ 8 < (9 : Byte).toNat := by decide
theorem witness_Reads_unknown : LinesShown State.reset.toPart := by decide +kernel
theorem witness_ReadResponsesFitOneMessage : Bounded State.reset.toPart ∧ State.reset.port.slots.replies.length ≤ 4
    ∧ (∀ m ∈ State.reset.port.pendingSlots, m.replies.length ≤ 4)
    ∧ ∀ d, (State.reset.channel d).waiting.length ≤ 3 := by decide +kernel

/-- The four ways of a raised notice, on a full queue and on one short of it. -/
theorem witness_RaisedNoticeMergesEntersOrDisplaces :
    fullQueue.Pairwise (fun m n => m.kind.priority ≤ n.kind.priority) ∧ fullQueue.length = 32
      ∧ (fullQueue.dropLast).length = 31
      ∧ (∃ m ∈ fullQueue, m.kind = .trunkLost ∧ m.subject = {})
      ∧ (∀ m ∈ fullQueue, ¬ (m.kind = .markerAdjusted ∧ m.subject = {}))
      ∧ (∀ m ∈ fullQueue, m.kind.priority ≤ NoticeKind.markerAdjusted.priority)
      ∧ (∀ m ∈ fullQueue, ¬ (m.kind = .noAck ∧ m.subject = {}))
      ∧ ∃ m ∈ fullQueue, NoticeKind.noAck.priority < m.kind.priority := by decide +kernel

/-- A store with every record in a state. -/
def filled (st : RecState) : State := after (fun s => { s with store := s.store.map (fun r => { r with state := st }) })
theorem filled_state (st : RecState) (r : RecId) : ((filled st).record r).state = st := by
  simp [filled, after, State.onPart, Part.record]

theorem witness_OpenStoryTakesLowestFree :
    let sources (st : RecState) := after (Part.onRecord · 7 (fun r => { r with state := st }))
    Listening State.reset.toPart ∧ 32 + 64 + (448 : Half).toNat ≤ 544 ∧ ¬ (32 + 64 + (449 : Half).toNat ≤ 544)
      ∧ (State.reset.record 0).state = .free ∧ (State.reset.record 7).state = .free
      ∧ ((sources .opened).record 7).state = .opened ∧ ((sources .ready).record 7).state = .ready := by decide +kernel
theorem witness_OpenStory_noneFree : (∀ r, ((filled .opened).record r).state ≠ .free)
    ∧ (∀ r, ((filled .ready).record r).state ≠ .free) ∧ ((filled .ready).record 7).state = .ready :=
  ⟨fun r => by rw [filled_state]; decide, fun r => by rw [filled_state]; decide, filled_state .ready 7⟩

/-- Values at and beyond the end of a setting's range, slots 15 and 16, 187 and 188 bytes of text. -/
theorem witness_WriteStoryWritesItsBytesOnly :
    let s := after (Part.onRecord · 7 (fun _ => Record.openedWith 3 2 10))
    Listening s.toPart ∧ Memory.wf (s.record 7).content ∧ (s.record 7).state = .opened
      ∧ (State.reset.record 7).state ≠ .opened ∧ beNat [16] ≤ 16 ∧ 16 < beNat [17] ∧ ([17] : List Byte).length = 1
      ∧ (15 : Half).toNat ≤ 15 ∧ ¬ ((16 : Half).toNat ≤ 15)
      ∧ (List.replicate 187 (0 : Byte)).length ≤ 187 ∧ 187 < (List.replicate 188 (0 : Byte)).length := by decide +kernel

theorem witness_CloseStoryChecksThenReadies :
    let s := after (Part.onRecord · 7 (fun _ => Record.openedWith 3 2 10))
    let one := after (Part.onRecord · 7 (fun _ => (Record.openedWith 0 0 0).put 11 [1]))
    let sum (x : Record) := ((List.range 760).map (fun j => (x.byteAt (8 + j)).toNat)).sum % 65536
    Listening s.toPart ∧ (State.reset.record 7).state = .free ∧ ((after (ready 0)).record 7).state = .ready
      ∧ (s.record 7).state = .opened ∧ sum (s.record 7) = (15 : Half).toNat ∧ sum (s.record 7) ≠ (16 : Half).toNat
      ∧ (s.record 7).eventCount = 0 ∧ 0 < (one.record 7).eventCount ∧ sum (one.record 7) = (1 : Half).toNat
      ∧ (one.record 7).slotComplete 0 = false := by decide +kernel

theorem witness_StoriesAreFreedWhenUnlinked : Listening (after (ready 1)).toPart
    ∧ (State.reset.record 7).state = .free ∧ ((after (ready 1)).record 7).state ≠ .free
    ∧ 0 < ((after (ready 1)).record 7).links ∧ ((after (ready 0)).record 7).links = 0
    ∧ ((after (Part.onRecord · 7 (fun r => { r with links := 1, retire := true }))).record 7).retire = true
    ∧ ((after (ready 1)).record 7).links = 1 := by decide +kernel

theorem witness_ProgramCodesAboveThreeAreRefused : Listening State.reset.toPart
    ∧ wellFormed (.take o 4 0) = true ∧ wellFormed (.appendEntries o 4 [(1, 7)]) = true
    ∧ programOf (.appendEntries o 4 [(1, 7)]) = some (o, 0x21, 4)
    ∧ programOf (.take o 4 0) = some (o, 0x30, 4) ∧ 3 < (4 : Byte).toNat ∧ programOf (.readList o 255 0 0) = some (o, 0x04, 255) := by
  decide

/-- The state the list statements are met in: program A on air, records 7 and 8 READY. -/
def onAir : State := after (ready 5 ∘ rec8 .ready 0 ∘ running)

theorem witness_onAir : Listening onAir.toPart ∧ ProgramOk onAir.toPart 0
    ∧ (0 : Byte).toNat = ((0 : ProgId) : Nat) ∧ ((onAir.rundown 0).entries.map Entry.tag = [4, 1, 2, 3, 5]) := by
  decide +kernel

theorem witness_InsertEntryPlacesAndLinks :
    let s := onAir.toPart
    let l := (s.rundown 0).entries
    s.creationFault 0 [] (0, 7) = some (.range, 2) ∧ s.creationFault 0 [] (65280, 7) = some (.range, 2)
      ∧ s.creationFault 0 [] (2, 7) = some (.range, 3) ∧ s.creationFault 0 [] (65279, 7) = none
      ∧ s.creationFault 0 [] (9, 9) = some (.notFound, 10) ∧ (77 : Half).toNat ∉ l.map Entry.tag
      ∧ (full126.toPart.creationFault 1 [(200, 7), (201, 7)] (202, 7)) = some (.full, 8)
      ∧ SplitsAfter l 0 [] l ∧ SplitsAfter l 5 l [] ∧ SplitsAfter l 1 (l.take 2) (l.drop 2) := by decide +kernel

theorem witness_AppendEntriesStopsAtFirstFault :
    let s := onAir.toPart
    s.creationFault 0 [] (8, 7) = none ∧ s.creationFault 0 [(8, 7)] (9, 8) = none
      ∧ s.creationFault 0 [(8, 7), (9, 8)] (8, 7) = some (.range, 3)
      ∧ 1 ≤ ([] ++ [((8 : Half), (7 : Byte))]).length ∧ (List.replicate 29 ((8 : Half), (7 : Byte)) ++ [(9, 8)]).length ≤ 30 := by
  decide +kernel

theorem witness_MoveEntryReplaces :
    let l := (onAir.rundown 0).entries
    let rest := l.filter (fun x => x.tag != 2)
    77 ∉ l.map Entry.tag ∧ en 2 .next ∈ l ∧ en 1 .onAir ∈ l ∧ (77 : Half) ≠ 0 ∧ (3 : Half) ≠ 2
      ∧ SplitsAfter rest 0 [] rest ∧ SplitsAfter rest 5 rest [] := by decide +kernel

/-- Entries in each of the five states, NEXT pinned or not. -/
theorem witness_DropAndRestoreChangeOneState :
    let l := (onAir.rundown 0).entries
    en 3 .pending ∈ l ∧ en 2 .next ∈ l ∧ en 5 .dropped ∈ l ∧ en 1 .onAir ∈ l ∧ en 4 .done ∈ l ∧ 77 ∉ l.map Entry.tag
      ∧ ProgramOk (onAir.toPart.onRunner 0 (fun r => { r with pinned := true })) 0 := by decide +kernel

theorem witness_RelinkMovesOneLink :
    let l := (onAir.rundown 0).entries
    en 1 .onAir ∈ l ∧ en 2 .next ∈ l ∧ en 3 .pending ∈ l ∧ (en 1 .onAir).record = 7 ∧ (en 1 .onAir).record ≠ 8
      ∧ (onAir.record 9).state = .free ∧ ((after (rec8 .opened 0)).record 8).state = .opened
      ∧ (onAir.record 8).state = .ready ∧ (onAir.record 8).links < 255 ∧ ((after (rec8 .ready 254)).record 8).links < 255
      ∧ 255 ≤ ((after (rec8 .ready 255)).record 8).links := by decide +kernel

/-- Record 8 READY with one cue, on channel 1: a ROLL at 5 frames of an anchor. -/
def cued (anchor : Byte) (s : Part) : Part :=
  (rec8 .ready 0 s).onRecord 8 (fun r => (r.put 11 [1]).put 32 [anchor, 1, 2, 0, 0, 0, 0, 5, 0, 0, 0, 9])

/-- Relinks on air at elapsed 6: the cue is the posted row's own, another one past due, and channel 1 is used and 2 not. -/
theorem witness_Relink_onAir :
    let s (old : Row) := after (chan1 (config .clip 2 false) id ∘ table [old] ∘ ready 5 ∘ cued 1 ∘ running
      ∘ (Part.onClock · (fun c => { c with frame := 6 })))
    let same := { row .fromTake .roll .acked with offset := 5 }
    (s same).elapsed 0 = some 6 ∧ ((s same).runner 0).mode = .live ∧ ((s same).record 8).links < 255
      ∧ ((run (.relinkEntry o 0 1 8) (s same)).firing 0).onAir.rows.map Row.outcome = [.acked]
      ∧ ((run (.relinkEntry o 0 1 8) (s (row .fromTake .roll .acked))).firing 0).onAir.rows.map Row.outcome = [.skipped]
      ∧ ((s same).record 8).rows.map Row.anchor = [.fromTake] ∧ ((s same).record 8).uses 0 = true
      ∧ ((s same).channel 0).shareable = false ∧ ((s same).record 8).uses 1 = false := by decide +kernel
/-- R91: a relink on air clears the run seen flag where the timing channel changes, and keeps it where it does not. -/
theorem test_relink_seen :
    let s (timing : Byte) := onAir.onPart ((Part.onRunner · 0 (fun r => { r with runSeen := true }))
      ∘ (Part.onRecord · 8 (fun r => r.put 10 [timing])))
    ((run (.relinkEntry o 0 1 8) (s 1)).runner 0).runSeen = false
      ∧ ((run (.relinkEntry o 0 1 8) (s 0)).runner 0).runSeen = true := by decide +kernel
/-- Relinks of the NEXT entry: cues of two anchors, claims FREE and its own. -/
theorem witness_Relink_next :
    let s (anchor : Byte) (c : Claim) := after (chan1 (config .clip 2 false) (fun x => { x with claim := c }) ∘ ready 5
      ∘ cued anchor ∘ running)
    en 2 .next ∈ ((s 3 .free).rundown 0).entries ∧ (en 2 .next).record ≠ 8 ∧ ((s 3 .free).runner 0).mode = .live
      ∧ ((s 1 .free).record 8).rows.map Row.anchor = [.fromTake] ∧ ((s 3 .free).record 8).rows.map Row.anchor = [.onNext]
      ∧ ((s 3 .free).channel 0).claim = .free ∧ ((s 3 (.held 0)).channel 0).claim = .held 0
      ∧ ((s 3 .free).record 8).uses 0 = true ∧ ((s 3 .free).runner 0).givenUp = false := by decide +kernel

theorem witness_TrimAndClearRemoveEntries :
    let idle := after (listed [en 4 .done, en 3 .pending] (some 4) .idle)
    Listening idle.toPart ∧ ProgramOk idle.toPart 0 ∧ (idle.runner 0).state = .idle ∧ idle.onAirEntry 0 = none
      ∧ idle.nextEntry 0 = none ∧ ¬ ((onAir.runner 0).state = .parked ∨ (onAir.runner 0).state = .idle) := by
  decide +kernel

theorem witness_SetNextPinsTheEntry :
    let parks := after (listed [en 4 .done, en 1 .onAir, en 3 .pending] (some 1) .parkPending)
    let parked := after (listed [en 4 .done, en 3 .pending] (some 4) .parked)
    ProgramOk parks.toPart 0 ∧ ProgramOk parked.toPart 0 ∧ (parks.runner 0).state = .parkPending
      ∧ (parked.runner 0).state = .parked ∧ (onAir.runner 0).state ≠ .parkPending
      ∧ en 1 .onAir ∈ (onAir.rundown 0).entries ∧ en 4 .done ∈ (onAir.rundown 0).entries
      ∧ 77 ∉ (onAir.rundown 0).entries.map Entry.tag := by decide +kernel

/-- SET_NEXT of an entry of record 8, which uses channel 1, and of one that uses none, where the claim is FREE, needed,
used on air, or neither. -/
theorem witness_SetNext_claims :
    let es := [en 1 .onAir, en 2 .next, en 3 .pending, { en 6 .pending with record := 8 }]
    let s (c : Claim) (used : List ChanId) := after (fun x => ((chan1 (config .clip 2 false) (fun y => { y with claim := c }) ∘ ready 3
      ∘ (Part.onRecord · 8 (fun r => { r with links := 1 })) ∘ cued 3 ∘ listed es (some 1) .running) x).onAiring 0 (fun _ => used))
    let m := s .free []
    Listening m.toPart ∧ ProgramOk m.toPart 0 ∧ (m.runner 0).state ≠ .parkPending ∧ (m.runner 0).state ≠ .parked
      ∧ (m.runner 0).mode = .live ∧ (m.record 8).uses 0 = true ∧ (m.channel 0).shareable = false
      ∧ (m.record 7).uses 0 = false ∧ (m.channel 0).claim = .free ∧ ((s (.held 0) []).channel 0).claim = .held 0
      ∧ 0 ∉ (s (.held 0) []).airingSet 0 ∧ 0 ∈ (s (.held 0) [0]).airingSet 0 ∧ m.nextEntry 0 ≠ none := by decide +kernel
/-- The effects of becoming and leaving NEXT, of record 8: given up or not, a row posted, a claim held. -/
theorem witness_SetNext_effects :
    let es := [en 1 .onAir, { en 2 .next with record := 8 }]
    let s (up : Bool) := (((cued 3 ∘ ready 1 ∘ listed es (some 1) .running) (Part.reset 5)).onRunner 0 (fun r =>
      { r with givenUp := up })).onFiring 0 (fun f => { f with next := { tag := 2, prompter := 0, rows := [row .onNext .load .acked] } })
    ((s true).firing 0).posting < 65536 ∧ (s true).nextEntry 0 ≠ none ∧ (∀ e ∈ (s true).nextEntry 0, e.record = 8)
      ∧ ((s true).runner 0).givenUp = true ∧ ((s false).runner 0).givenUp = false
      ∧ ((s false).record 8).rows.map Row.anchor = [.onNext]
      ∧ (((s false).leaveEffects 0 8 none).channel 0).queue = []
      ∧ ((((s false).onChannel 0 (fun c => { c with claim := .held 0 })).leaveEffects 0 8 none).channel 0).claim = .releasing 0
      ∧ ((((s false).onChannel 0 (fun c => { c with config := some (config .graphic 2 true) })).leaveEffects 0 8 none).channel 0).queue.map
          QCommand.action = [.clear] := by decide +kernel

theorem witness_TakePutsNextOnAir :
    let parks := after (listed [en 4 .done, en 1 .onAir, en 3 .pending] (some 1) .parkPending)
    let parked := after (listed [en 3 .pending] none .parked)
    ProgramOk parks.toPart 0 ∧ ProgramOk parked.toPart 0 ∧ (parked.runner 0).state = .parked
      ∧ (parks.rundown 0).candidate = some (en 3 .pending) := by decide +kernel
theorem witness_TakePutsNextOnAir_running :
    let alone := after (listed [en 1 .onAir] (some 1) .running)
    ProgramOk alone.toPart 0 ∧ alone.nextEntry 0 = none ∧ (alone.runner 0).state = .running
      ∧ onAir.nextEntry 0 = some (en 2 .next) ∧ (2 : Half).toNat = (en 2 .next).tag
      ∧ (3 : Half).toNat ≠ (en 2 .next).tag := by decide +kernel

/-- Settling at elapsed 5 and posting at the take: rows due and not, held ones, a MANUAL one. -/
theorem witness_Take_settles :
    let w (due : Nat) : Row := { row .fromTake .stop .waiting with due := some due }
    let s := (table [w 5, w 6, { row .fromTake .roll .posted with held := some 0 }, row .manual .roll .waiting] ∘ running) (Part.reset 5)
    (s.firing 0).posting < 65536
      ∧ ((s.settleTable 0 5).firing 0).onAir.rows.map Row.outcome = [.noClaim, .skipped, .skipped, .waiting]
      ∧ ((s.postAtTake 0).firing 0).onAir.rows.map Row.outcome = [.waiting, .waiting, .posted, .waiting]
      ∧ (((table [w 0] s).postAtTake 0).firing 0).onAir.rows.map Row.outcome = [.noClaim] := by decide +kernel

theorem witness_HoldFreezesAndReleaseResumes :
    let held := after (fun s => (running s).onRunner 0 (fun r => { r with state := .held, held := some 4294967295 }))
    Listening held.toPart ∧ (onAir.runner 0).state = .running ∧ onAir.onAirEntry 0 = some (en 1 .onAir)
      ∧ (en 1 .onAir).takeFrame = some 0 ∧ (onAir.runner 0).held = none ∧ (held.runner 0).state = .held
      ∧ held.onAirEntry 0 = some (en 1 .onAir) ∧ (held.runner 0).held = some 4294967295
      ∧ (State.reset.runner 0).state = .idle := by decide +kernel

theorem witness_EndShowEndsAiringAndReleases :
    let s := onAir.onPart (chan1 (config .clip 2 false) (fun c => { c with claim := .held 0 }))
    Listening s.toPart ∧ ProgramOk s.toPart 0 ∧ (s.runner 0).state = .running ∧ (s.runner 0).mode = .live
      ∧ (s.channel 0).claim = .held 0 ∧ (s.channel 1).claim ≠ .held 0 ∧ (State.reset.runner 0).state = .idle := by
  decide +kernel

/-- R132, R140: END_SHOW skips the rows that wait, and in REHEARSAL puts a CLEAR of the channel used at the echo. -/
theorem test_end_show :
    let s := onAir.onPart ((Part.onAiring · 0 (fun _ => [3])) ∘ (Part.onRunner · 0 (fun r => { r with mode := .rehearsal }))
      ∘ table [{ row .fromTake .stop .waiting with due := some 9 }])
    let t := run (.endShow o 0) s
    (t.firing 0).onAir.rows.map Row.outcome = [.skipped] ∧ t.airingSet 0 = []
      ∧ (t.firing 0).echo.map (fun k => (k.channel, k.action)) = [(3, .clear)] := by decide +kernel

theorem witness_ParkAndUnpark :
    let parks := after (listed [en 4 .done, en 3 .pending] (some 4) .parkPending)
    Listening parks.toPart ∧ ProgramOk parks.toPart 0 ∧ (parks.runner 0).state = .parkPending ∧ MayPark parks.toPart 0
      ∧ ¬ ((onAir.runner 0).state = .parkPending ∧ MayPark onAir.toPart 0)
      ∧ ¬ ((onAir.runner 0).state = .parkPending ∨ (onAir.runner 0).state = .parked) := by decide +kernel

/-- No story, one from the settings, one given; full lists and records; the first reserved tag and one after it. -/
theorem witness_BreakInPinsAReservedEntry :
    let l := (onAir.rundown 0).entries
    let broken := after (ready 5 ∘ listed [en 1 .onAir, en 65280 .done] (some 1) .running)
    let set := onAir.onPart (Part.onRunner · 0 (fun r => { r with settings := { r.settings with breakIn := some 7 } }))
    (onAir.runner 0).settings.breakIn = none ∧ (set.runner 0).settings.breakIn = some 7 ∧ l.length < 128
      ∧ (onAir.record 9).state = .free ∧ ((after (rec8 .opened 0)).record 8).state = .opened
      ∧ 255 ≤ ((after (rec8 .ready 255)).record 8).links ∧ (onAir.record 7).state = .ready
      ∧ (onAir.record 7).links < 255 ∧ 65280 ∉ l.map Entry.tag ∧ ProgramOk broken.toPart 0
      ∧ 65281 ∉ (broken.rundown 0).entries.map Entry.tag ∧ 65280 ∈ (broken.rundown 0).entries.map Entry.tag
      ∧ SplitsAfter l ((onAir.rundown 0).mark.getD 0) (l.take 2) (l.drop 2) := by decide +kernel
/-- R96: with take-now the entry inserted is on air at once, after the one that was. -/
theorem test_break_now :
    ((run (.breakIn o 0 1 8 1) onAir).rundown 0).entries.map (fun e => (e.tag, e.state)) =
      [(4, .done), (1, .done), (65280, .onAir), (2, .next), (3, .pending), (5, .dropped)] := by decide +kernel
theorem witness_BreakIn_full :
    let s := after (listed ((List.range 128).map (fun i => en (i + 1) .pending)) none .idle)
    Listening s.toPart ∧ ProgramOk s.toPart 0 ∧ 128 ≤ (s.rundown 0).entries.length := by decide +kernel
theorem witness_BreakIn_pool :
    let es := (List.range 127).map (fun i => en (i + 1) .pending)
    let s := after (fun s => (listed es none .idle s).onRundown 1 (fun _ => { entries := es ++ [en 200 .done, en 201 .done], mark := none }))
    Listening s.toPart ∧ ProgramOk s.toPart 0 ∧ ¬ 128 ≤ (s.rundown 0).entries.length
      ∧ 256 ≤ (allPrograms.map (fun q => (s.rundown q).entries.length)).sum := by decide +kernel

theorem witness_ModeAndSettingsAreSet :
    let parked := after (listed [] none .parked)
    Listening parked.toPart ∧ (parked.runner 0).state = .parked ∧ (State.reset.runner 0).state ≠ .parked
      ∧ 1 < (2 : Byte).toNat ∧ (1 : Byte).toNat ≤ 1 ∧ 3 < (4 : Byte).toNat ∧ (3 : Byte).toNat ≤ 3
      ∧ (rateDay State.reset.clock.rate ≤ (2160000 : Word).toNat ∧ (2160000 : Word).toNat ≠ 0xFFFFFFFF)
      ∧ ¬ rateDay State.reset.clock.rate ≤ (2159999 : Word).toNat ∧ (600 : Half).toNat ≤ 600 ∧ 600 < (601 : Half).toNat
      ∧ (30 : Half).toNat < (31 : Half).toNat := by decide +kernel
/-- An echo with a command of each sort: one that has just been added, one that was issued a frame start ago. -/
theorem witness_ModeAndSettings_echo :
    let k : EchoCmd := { channel := 0, action := .roll, posting := some 3, issued := false }
    let s := (table [{ row .fromTake .roll .posted with posting := some 3 }] (running (Part.reset 5))).onFiring 0
      (fun f => { f with echo := [k, { k with posting := some 4, issued := true }] })
    ((s.firing 0).echo.filter (fun k => !k.issued)).length = 1 ∧ ((s.firing 0).echo.filter (fun k => k.issued)).length = 1
      ∧ ((s.echoAdvance 0).firing 0).onAir.rows.map Row.outcome = [.issued]
      ∧ ((s.echoAdvance 0).firing 0).echoOn.at 0 = true := by decide +kernel
theorem witness_ProgramResetClearsOneProgram : Listening onAir.toPart ∧ (3 : Byte).toNat = ((3 : ProgId) : Nat) := by
  decide +kernel

/-- A claim of the program with a return request and another program waiting, and a claim of that program. -/
theorem witness_ProgramReset_claims :
    let s (c : Claim) := onAir.onPart (chan1 (config .clip 2 false) (fun x =>
      { x with claim := c, waiting := [(1, 0)], returnReq := some 0 }))
    ((s (.releasing 0)).channel 0).claim.program = some 0 ∧ ((s (.held 0)).channel 0).claim.program = some 0
      ∧ ¬ ((s (.held 2)).channel 0).claim.program = some 0 ∧ Listening (s (.held 0)).toPart
      ∧ LinksOk (s (.releasing 0)).toPart := by decide +kernel

/-- Rows of each sort: firable or not, due or not, held behind a shut gate or an open one. -/
theorem witness_RowsArePostedThroughTheGate :
    let waiting := row .fromTake .roll .waiting
    let sent := row .fromTake .roll .acked
    let s := onAir.onPart (chan1 (config .clip 2 false) id ∘ table [waiting, sent, { waiting with held := some 2 }, { waiting with held := some 1 }])
    let rows := (s.firing 0).onAir.rows
    (Listening s.toPart ∧ s.onAirEntry 0 ≠ none ∧ State.reset.onAirEntry 0 = none ∧ rows.length ≤ (15 : Byte).toNat)
      ∧ rows[0]? = some waiting ∧ rows[1]? = some sent ∧ waiting.outcome = .waiting
      ∧ sent.outcome ≠ .waiting ∧ sent.outcome ≠ .skipped ∧ 15 < (16 : Byte).toNat
      ∧ (waiting.due.any (fun d => decide (d ≤ (s.elapsed 0).getD 0))) = true ∧ (s.runner 0).state = .running
      ∧ GateShut s.toPart 0 waiting ∧ graceOf s.toPart waiting = 2 := by decide +kernel
theorem witness_Rows_open :
    let waiting := row .fromTake .roll .waiting
    let open_ := onAir.onPart (chan1 (config .clip 2 false) (fun c =>
      { c with report := some { acked := 0, status := .ready, remaining := none, fault := 0 } }) ∘ table [{ waiting with held := some 0 }])
    ¬ GateShut open_.toPart 0 waiting ∧ ((open_.firing 0).onAir.rows[0]?).map Row.held = some (some 0)
      ∧ graceOf onAir.toPart waiting = 0 ∧ GateShut onAir.toPart 0 waiting := by decide +kernel

/-- Record 7 with an AUTO_TIMED end and a planned duration of one frame. -/
def timed (s : Part) : Part :=
  s.onRecord 7 (fun r => (Record.put { r with state := .ready, links := 5 } 9 [1]).put 14 [0, 0, 0, 1])

theorem witness_AutomaticEndTakesOrEnds :
    let s := after (fun s => ((timed ∘ running) s).onClock (fun c => { c with frame := 1 }))
    let alone := after (fun s => ((timed ∘ listed [en 1 .onAir] (some 1) .running) s).onClock (fun c => { c with frame := 1 }))
    (ProgramOk s.toPart 0 ∧ ProgramOk alone.toPart 0) ∧ s.active = true ∧ s.onAirEntry 0 = some (en 1 .onAir)
      ∧ EndDue s.toPart 0 (en 1 .onAir) = true ∧ s.nextEntry 0 = some (en 2 .next)
      ∧ EndDue alone.toPart 0 (en 1 .onAir) = true ∧ alone.nextEntry 0 = none
      ∧ EndDue (after (timed ∘ running)).toPart 0 (en 1 .onAir) = false := by decide +kernel

/-- Hard starts at day frame 1, reached by an advance from 0. -/
theorem witness_HardStartsTakeOrAreMissed :
    let s := after (fun s => ((running s).onRecord 7 (fun r => r.put 20 [0, 0, 0, 1])).onClock
      (fun c => { c with day := 1, prevDay := 0 }))
    (s.active = true ∧ ProgramOk s.toPart 0) ∧ HardTarget s.toPart 0 = some (en 3 .pending)
      ∧ en 3 .pending ∈ (s.rundown 0).afterMark ∧ HardTarget State.reset.toPart 0 = none
      ∧ en 2 .next ∈ (s.rundown 0).entries ∧ HardReached s.toPart (en 2 .next) = true := by decide +kernel

theorem witness_TimingResultsAreReckoned :
    let s := onAir.onPart (Part.onRunner · 0 (fun r => { r with settings := { r.settings with hardOut := some 2159999 } }))
    s.clock.day < rateDay s.clock.rate ∧ s.onAirEntry 0 = some (en 1 .onAir) ∧ State.reset.onAirEntry 0 = none
      ∧ s.observed 0 7 = none ∧ (s.pendingSet 0).length = 2 ∧ (s.runner 0).settings.hardOut = some 2159999
      ∧ 2159999 < rateDay s.clock.rate ∧ (State.reset.runner 0).settings.hardOut = none := by decide +kernel

/-- A RUNNING report of the timing channel, an anchor at the second pending entry, none behind it, a sum that saturates. -/
theorem witness_Timing_reportAndAnchor :
    let es := [en 1 .onAir, en 2 .next, { en 3 .pending with record := 8 }, en 6 .pending]
    let s (st : DevStatus) := (chan1 (config .clip 2 false) (fun c => { c with
        claim := .held 0, report := some { acked := 0, status := st, remaining := some 300, fault := 0 } })
      ∘ (Part.onRecord · 7 (fun r => r.put 20 [0xFF, 0xFF, 0xFF, 0xFF])) ∘ (Part.onRecord · 7 (fun r => r.put 10 [1]))
      ∘ (Part.onRecord · 8 (fun r => r.put 20 [0, 0, 0, 9])) ∘ listed es (some 1) .running) (Part.reset 5)
    let t := s .running
    t.clock.day < rateDay t.clock.rate ∧ t.onAirEntry 0 = some (en 1 .onAir) ∧ (t.record 7).timing? = some 0
      ∧ (t.runner 0).mode = .live ∧ (t.channel 0).health = .online ∧ (t.channel 0).claim = .held 0
      ∧ ((t.channel 0).report.map Report.status = some .running)
      ∧ (((s .idle).channel 0).report.map Report.status = some .idle)
      ∧ (t.pendingSet 0).map Entry.tag = [2, 3, 6] ∧ (t.record 7).hardStart? = none
      ∧ ((t.record 8).hardStart?.filter (fun x => decide (x < rateDay t.clock.rate))) = some 9
      ∧ (t.reckon 0).rem = some 300 ∧ (t.reckon 0).oNext = some (291, 3) := by decide +kernel
/-- Thirteen stories of 90,000 frames saturate half a day at 25 fps; two of none do not. -/
theorem witness_Timing_saturates :
    let s := listed [en 1 .onAir, en 2 .next] (some 1) .running (Part.reset 5)
    let long := (listed (en 20 .next :: (List.range 12).map (fun i => en (i + 1) .pending)) none .idle (Part.reset 5)).onRecord 7
      (fun r => r.put 14 [255, 255, 255, 255])
    (s.reckon 0).saturated = false ∧ (long.reckon 0).saturated = true ∧ (long.timing 0).saturated = false
      ∧ (long.timingFrameStart 0).notices.map Notice.kind = [.timingSaturated] := by decide +kernel

theorem witness_PresentersAreCheckedThenPending :
    let s := after (Part.onPresenter · 1 (fun k => { k with pending := some { readRate := 24, cue := 5, standby := 32 } }))
    Listening s.toPart ∧ ((s.presenter 1).pending.getD (s.presenter 1).settings).cue = (5 : Byte).toNat
      ∧ 16 < (17 : Byte).toNat ∧ (16 : Byte).toNat ≤ 16 ∧ (7 : Byte).toNat < 8 ∧ 64 < (65 : Byte).toNat
      ∧ 32 < (33 : Byte).toNat ∧ (15 : PresId).val + 1 = (16 : Byte).toNat
      ∧ ∀ m, ((s.presenter m).pending.getD (s.presenter m).settings).cue ≠ 6 := by decide +kernel

/-- Presenter 2 reads in program A on air and in program B, at two stages: the conflict begins, under its CUE line 3. -/
theorem witness_Presenters_conflict :
    let es := [en 1 .onAir]
    let s := (((listed es (some 1) .running (Part.reset 5)).onRundown 1 (fun _ => { entries := es, mark := some 1 })).onRunner 1
      (fun r => { r with state := .running })).onRecord 7 (fun r => (r.put 8 [2]))
    let s := (((s.onTiming 0 (fun t => { t with stage := .slow })).onTiming 1 (fun t => { t with stage := .fast })).onLine 2
      (fun l => { l with config := { l.config with fn := .cue 1 } }))
    (s.presenter 1).conflict = false ∧ ((s.presenterStep 1).presenter 1).pattern = .fast
      ∧ ((s.presenterStep 1).presenter 1).conflict = true ∧ (s.line 2).fn = .cue 1
      ∧ (s.presenterStep 1).notices.map Notice.subject = [{ program := some 0, line := some 3 }] := by decide +kernel

theorem witness_ChannelsAreConfigured :
    let g := config .clip 2 false
    let used := after (chan1 g (fun c => { c with claim := .held 0 }))
    let idle := after (chan1 g (fun c => { c with pending := some (config .graphic 3 true) }))
    Listening used.toPart ∧ (0 : ChanId).val + 1 = (1 : Byte).toNat ∧ (23 : ChanId).val + 1 = (24 : Byte).toNat
      ∧ ¬ (25 : Byte).toNat ≤ 24 ∧ (62 : Byte).toNat ≠ used.port.node ∧ (5 : Byte).toNat = used.port.node
      ∧ (used.channel 0).config = some g ∧ (used.channel 0).claim ≠ .free ∧ g.kind.code ≠ (1 : Byte).toNat
      ∧ (used.channel 0).slot = (2 : Byte).toNat ∧ (State.reset.channel 0).config = none
      ∧ (State.reset.channel 0).pending = none ∧ (idle.channel 0).pending = some (config .graphic 3 true)
      ∧ fullChange g (config .graphic 3 true) = true ∧ fullChange g { g with staleLimit := 9 } = false := by
  decide +kernel
theorem witness_Channels_idle :
    let ch := (after (chan1 (config .clip 2 false) id)).channel 0
    ch.claim = .free ∧ ch.waiting = [] ∧ ch.queue = [] ∧ ch.release = none ∧ ch.current.standing ≠ .awaiting
      ∧ ∀ p, ch.onStates.at p = false := by decide +kernel

/-- A command of program A that waits in a queue or the release place. -/
def queued : QCommand :=
  { program := 0, action := .clear, param := 0, asset := 0, posting := some 3, tag := 1, frame := 0 }

theorem witness_ChannelsIssueInLockedFrames :
    let s (f : Channel → Channel) := after (chan1 (config .clip 2 false) f ∘ locked 1)
    let q := s (fun c => { c with queue := [queued] })
    let r := s (fun c => { c with release := some queued })
    (q.active = true ∧ q.port.lockedFrame = true ∧ q.port.beganLocked = true ∧ (q.channel 0).config ≠ none ∧ (q.channel 0).health = .online)
      ∧ (q.channel 0).slot ≠ 0 ∧ (q.channel 0).current.standing ≠ .awaiting
      ∧ (q.channel 0).current.issueFrame ≠ some q.clock.frame ∧ (q.channel 0).queue = queued :: []
      ∧ (r.channel 0).queue = [] ∧ (r.channel 0).release = some queued
      ∧ (State.reset.port.lockedFrame = false) := by decide +kernel

/-- R158: a marker that agrees with the frame in progress makes it LOCKED without a frame start, and nothing issues. -/
theorem test_issue_began :
    let s := after (chan1 (config .clip 2 false) (fun c => { c with queue := [queued] }) ∘ (Part.setLock · (.flywheel 1))
      ∘ (Part.setPosition · (some 0)))
    let t := run (.markerArrival (marker 0 0 0 0) 0) s
    t.port.lockedFrame = true ∧ ((run (.commandIssue 0) t).channel 0).queue = [queued] := by decide +kernel

theorem witness_ChannelsSettle :
    let g := config .clip 2 false
    let s (f : Channel → Channel) := after (chan1 g f)
    let due := s (fun c => { c with ackCount := 3, current := { c.current with standing := .awaiting, program := some 0 } })
    let early := s (fun c => { c with ackCount := 2, current := { c.current with standing := .awaiting, program := some 0 } })
    let silent := s (fun c => { c with silence := 25 })
    let passing := s (fun c => { c with claim := .releasing 0, waiting := [(1, 0)] })
    (due.channel 0).config = some g ∧ g.ackWindow ≤ (due.channel 0).ackCount
      ∧ (due.channel 0).current.program = some 0 ∧ (early.channel 0).ackCount < g.ackWindow
      ∧ (silent.channel 0).health = .online ∧ (silent.channel 0).silence = 25
      ∧ (passing.channel 0).claim = .releasing 0 ∧ (passing.channel 0).release = none
      ∧ (passing.channel 0).current.isRelease = false
      ∧ since 5 queued.frame ≤ g.staleLimit ∧ ¬ since 6 queued.frame ≤ g.staleLimit := by decide +kernel

/-- A release CLEAR overdue, one stale in the release place, and a stale command in the queue. -/
theorem witness_ChannelsSettle_release :
    let g := config .clip 2 false
    let s (f : Channel → Channel) := after (fun x => (chan1 g f x).onClock (fun c => { c with frame := 6 }))
    let due := s (fun c => { c with ackCount := 3, claim := .releasing 0
                                    current := { c.current with standing := .awaiting, program := some 0, isRelease := true } })
    let old := s (fun c => { c with claim := .releasing 0, waiting := [(1, 0)], release := some queued, queue := [queued] })
    (due.channel 0).current.isRelease = true ∧ (due.channel 0).claim = .releasing 0 ∧ (due.channel 0).release = none
      ∧ g.ackWindow ≤ (due.channel 0).ackCount ∧ ¬ since old.clock.frame queued.frame ≤ g.staleLimit
      ∧ queued ∈ (old.channel 0).release ∧ queued ∈ (old.channel 0).queue ∧ (old.channel 0).claim = .releasing 0
      ∧ (old.channel 0).current.isRelease = false ∧ queued.posting = some 3 := by decide +kernel

theorem witness_ClaimRequestsAreDecided :
    let s (c : Claim) := after (chan1 (config .clip 2 false) (fun x => { x with claim := c }))
    let high := (s (.held 1)).onPart (Part.onRunner · 0 (fun r => { r with settings := { r.settings with priority := 1 } }))
    (1 : ProgId) ≠ 0 ∧ ((s .free).channel 0).claim = .free ∧ ((s (.held 0)).channel 0).claim = .held 0
      ∧ ((s (.releasing 0)).channel 0).release = none ∧ ((s (.releasing 1)).channel 0).claim = .releasing 1
      ∧ ((after (chan1 (config .clip 2 false) (fun x => { x with claim := .releasing 0, release := some queued }))).channel 0).release = some queued
      ∧ high.priority 1 < high.priority 0 ∧ 0 ∉ high.airingSet 1 ∧ ¬ (s (.held 1)).priority 1 < (s (.held 1)).priority 0 := by
  decide +kernel

/-- R126, R152: a preempted holder's queued command leaves, and its row in flight is PREEMPTED. -/
theorem witness_ClaimRequests_preempted :
    let s := after (fun x => ((chan1 (config .clip 2 false)
      (fun c => { c with claim := .held 1, queue := [{ queued with program := 1 }, { queued with program := 2 }] }) x).onRunner 0
        (fun r => { r with settings := { r.settings with priority := 1 } })).onFiring 1 (fun f =>
          { f with next := { f.next with rows := [{ row .onNext .load .posted with posting := some 3 }] } }))
    s.priority 1 < s.priority 0 ∧ 0 ∉ s.airingSet 1 ∧ (s.channel 0).claim = .held 1
      ∧ (((s.claimRequest 0 0).firing 1).next.rows.map Row.outcome) = [.preempted]
      ∧ ((s.claimRequest 0 0).channel 0).queue = [{ queued with program := 2 }] := by decide +kernel

theorem witness_LineCommandsChangeOneLine :
    let s := after (line1 .manualOut id)
    let a := after (line1 (.inputTake 0) id)
    Listening s.toPart ∧ Listening a.toPart ∧ (0 : LineId).val + 1 = (1 : Byte).toNat
      ∧ (31 : LineId).val + 1 = (32 : Byte).toNat ∧ 32 < (33 : Byte).toNat ∧ 11 < (12 : Byte).toNat
      ∧ (s.line 0).fn = .manualOut ∧ (a.line 0).fn ≠ .manualOut ∧ (a.line 0).fn.actionProgram ≠ none
      ∧ (s.line 0).fn.actionProgram = none ∧ 15 < (16 : Byte).toNat ∧ 1 < (2 : Byte).toNat := by decide +kernel

/-- Line 1 with an action function, armed, about to accept an active level. -/
def actionLine (fn : LineFn) : Part → Part := line1 fn (fun l => { l with armed := true, change := some (true, 2) })
theorem witness_LineRowsTakeEffect :
    let out := after (line1 .manualOut (fun l => { l with mismatch := 3 }))
    let input (fn : LineFn) (b : Bool) (n : Nat) := onAir.onPart (line1 fn (fun l => { l with armed := true, change := some (b, n) }))
    (out.active = true ∧ (out.line 0).fn.isOutput = true ∧ (out.line 0).mismatch = 3 ∧ (out.line 0).fault = false)
      ∧ ((input (.inputTake 0) false 2).line 0).config.debounce ≤ 2
      ∧ ((input (.inputTake 0) true 2).line 0).change = some (true, 2)
      ∧ ((input (.inputTake 0) true 1).line 0).change = some (true, 1)
      ∧ 1 < ((input (.inputTake 0) true 1).line 0).config.debounce
      ∧ ((input (.inputHold 0) true 2).line 0).fn = .inputHold 0 ∧ ((input (.inputHold 0) true 2).line 0).armed = true
      ∧ ((input (.inputHold 0) true 2).runner 0).held = none
      ∧ (input (.inputTake 0) true 2).nextEntry 0 = some (en 2 .next) := by decide +kernel
/-- INPUT_TAKE in PARK_PENDING, with an entry to take and without one, and in RUNNING without one. -/
theorem witness_LineRows_takeParking :
    let s (es : List Entry) (st : ProgState) := after (actionLine (.inputTake 0) ∘ listed (en 1 .onAir :: es) (some 1) st)
    let parks := s [en 3 .pending] .parkPending
    parks.active = true ∧ (parks.line 0).armed = true ∧ (parks.runner 0).state = .parkPending ∧ ProgramOk parks.toPart 0
      ∧ (parks.rundown 0).afterMark.find? Entry.waits = some (en 3 .pending)
      ∧ ((s [] .parkPending).rundown 0).afterMark.find? Entry.waits = none ∧ (s [] .running).nextEntry 0 = none
      ∧ ((s [] .running).runner 0).state ≠ .parkPending := by decide +kernel
/-- Line 1 with a press half-way through, and a configuration of its own function and polarity waiting. -/
theorem witness_LineRows_configured :
    let s := after (fun x => ((actionLine (.inputTake 0) ∘ running) x).onLine 0 (fun l => { l with pending := some l.config }))
    let t := run .lineConfigurationTakesEffect s
    (t.line 0).config = (s.line 0).config ∧ (s.line 0).pending ≠ none ∧ (t.line 0).change = none
      ∧ (t.line 0).armed = true := by decide +kernel
theorem witness_LineRows_program :
    ProgramOk (onAir.onPart (line1 (.inputTake 0) (fun l => { l with armed := true, change := some (true, 2) }))).toPart 0 := by
  decide +kernel

/-- A parked program's INPUT_TAKE. -/
theorem witness_LineRows_takeParked :
    let s := after (actionLine (.inputTake 0) ∘ listed [en 3 .pending] none .parked)
    s.active = true ∧ (s.runner 0).state = .parked ∧ ProgramOk s.toPart 0 ∧ (s.line 0).fn = .inputTake 0 := by
  decide +kernel
/-- INPUT_HOLD in HELD, IDLE, PARK_PENDING and PARKED, and INPUT_FIRE in PARKED. -/
theorem witness_LineRows_holdStates :
    let s (fn : LineFn) (es : List Entry) (st : ProgState) (h : Option Nat) := after (fun x =>
      ((actionLine fn ∘ listed es (some 1) st) x).onRunner 0 (fun r => { r with held := h }))
    let held := s (.inputHold 0) [en 1 .onAir] .held (some 4294967295)
    let parks := s (.inputHold 0) [en 1 .onAir] .parkPending none
    let parked := s (.inputHold 0) [en 1 .done, en 2 .pending] .parked none
    held.active = true ∧ (held.runner 0).state = .held ∧ held.onAirEntry 0 = some (en 1 .onAir)
      ∧ (en 1 .onAir).takeFrame = some 0 ∧ (held.runner 0).held = some 4294967295
      ∧ (parks.runner 0).state = .parkPending ∧ (State.reset.runner 0).state = .idle
      ∧ (parked.runner 0).state = .parked ∧ ProgramOk parked.toPart 0
      ∧ ((s (.inputFire 0 0) [en 1 .done] .parked none).line 0).fn = .inputFire 0 0
      ∧ ProgramOk (s (.inputFire 0 0) [en 1 .done] .parked none).toPart 0 := by decide +kernel
/-- INPUT_BREAK refused: by the list, by the record's state, by its links, and with no story in a PARKED program. -/
theorem witness_LineRows_breakRefused :
    let s (es : List Entry) (st : ProgState) (x : Option RecId) := after (fun y =>
      ((actionLine (.inputBreak 0) ∘ rec8 .ready 255 ∘ listed es none st) y).onRunner 0 (fun r =>
        { r with settings := { r.settings with breakIn := x } }))
    128 ≤ ((s ((List.range 128).map (fun i => en (i + 1) .pending)) .idle (some 7)).rundown 0).entries.length
      ∧ ((s [] .idle (some 9)).record 9).state ≠ .ready ∧ 255 ≤ ((s [] .idle (some 8)).record 8).links
      ∧ ((s [] .parked none).runner 0).settings.breakIn = none ∧ ((s [] .parked none).runner 0).state = .parked
      ∧ ProgramOk (s [] .parked none).toPart 0 ∧ ((s [] .idle none).runner 0).state ≠ .parked
      ∧ ((s [] .idle none).line 0).fn = .inputBreak 0 ∧ (s [] .idle none).active = true := by decide +kernel
/-- INPUT_BREAK with no story, and with record 7. -/
theorem witness_LineRows_break :
    let s := onAir.onPart (actionLine (.inputBreak 0))
    let full := s.onPart (Part.onRunner · 0 (fun r => { r with settings := { r.settings with breakIn := some 7 } }))
    let l := (full.rundown 0).entries
    (s.runner 0).state ≠ .parked ∧ (s.runner 0).settings.breakIn = none ∧ ProgramOk full.toPart 0
      ∧ (full.runner 0).settings.breakIn = some 7 ∧ (full.record 7).state = .ready ∧ (full.record 7).links < 255
      ∧ 65280 ∉ l.map Entry.tag ∧ SplitsAfter l ((full.rundown 0).mark.getD 0) (l.take 2) (l.drop 2) := by
  decide +kernel
/-- INPUT_FIRE of row 0, firable or not. -/
theorem witness_LineRows_fire :
    let s (st : RowOutcome) := onAir.onPart (table [row .fromTake .roll st] ∘ actionLine (.inputFire 0 0))
    (s .waiting).onAirEntry 0 ≠ none ∧ ((s .waiting).firing 0).onAir.rows[0]? = some (row .fromTake .roll .waiting)
      ∧ ((s .acked).firing 0).onAir.rows[0]? = some (row .fromTake .roll .acked)
      ∧ (s .waiting).active = true ∧ ((s .waiting).line 0).fn = .inputFire 0 0 := by decide +kernel

theorem witness_LabelsAndDayFramesCorrespond : 5178815 < rateDay .r60df ∧ labelInRange .r60df ⟨23, 59, 59, 59⟩ = true
    ∧ labelSkipped .r60df ⟨23, 59, 59, 59⟩ = false ∧ labelInRange .r30df ⟨0, 1, 0, 0⟩ = true := by decide
theorem witness_TimeDifferencesAndPoints :
    let c : Clock := { Clock.reset with prevDay := 2159999, day := 0 }
    c.rate = .r25 ∧ c.rateStart = false ∧ c.prevDay < rateDay .r25 ∧ c.day = (c.prevDay + 1) % rateDay .r25
      ∧ rateDay .r25 ≤ 2160000 ∧ { c with rateStart := true : Clock }.rateStart = true := by decide

/-- Every command answers a next state, here a HOLD of program A, from a state within the bounds. -/
theorem witness_EveryCommandKeepsBoundsAndOrder :
    (exec (.hold o 0) (after running) = .next (run (.hold o 0) (after running)))
      ∧ (∀ p, ProgramOk (after running).toPart p) ∧ Bounded (after running).toPart ∧ NoticesOrdered (after running).toPart ∧ ClockOk (after running).toPart :=
  ⟨rfl, by decide +kernel, by decide +kernel, by decide +kernel, by decide +kernel⟩
theorem witness_Bounds_store : StoreOk (after running).toPart := fun r => reset_content_wf r
theorem witness_EveryCommandKeepsProgramsAndLinks : (∀ p, ProgramOk onAir.toPart p) ∧ LinksOk onAir.toPart := by
  decide +kernel
/-- A claim with three programs waiting. -/
theorem witness_Invariants_claims :
    ClaimsOk (onAir.onPart (chan1 (config .clip 2 false) (fun c =>
      { c with claim := .releasing 0, waiting := [(1, 0), (2, 0), (3, 0)] }))).toPart := by decide +kernel
/-- A release CLEAR in the release place, and one that is current. -/
theorem witness_Invariants_releases :
    ReleasesOk (onAir.onPart (chan1 (config .clip 2 false) (fun c =>
      { c with release := some queued, current := queued.issued c.current.serial 0 true }))).toPart := by decide +kernel
/-- The status slot at 1, a reply slot at 47, and a channel's at 2. -/
theorem witness_Invariants_slots : SlotsOk (slotted 3).toPart := by
  refine ⟨fun m h => ?_, by decide +kernel, by decide +kernel⟩
  rcases h with h | h
  · subst h; decide +kernel
  · exact nomatch (show (none : Option SlotSet) = some m from h)
/-- The NEXT table of a story with one cue, as SET_NEXT leaves it, in a list of three entries. -/
def nextSet : State := run (.setNext o 0 3) (after (ready 2 ∘ (Part.onRecord · 8 (fun r => { r with links := 1 })) ∘ cued 1
  ∘ listed [en 1 .onAir, en 2 .next, { en 3 .pending with record := 8 }] (some 1) .running))
theorem witness_Invariants_next : (∀ p, ProgramOk nextSet.toPart p) ∧ LinksOk nextSet.toPart
    ∧ ((nextSet.firing 0).next.rows.length = 1) := by decide +kernel
theorem witness_Invariants_nextTable (p : ProgId) : NextTableOk nextSet.toPart p := by
  have h : ∀ p, let tb := (nextSet.firing p).next
      (nextSet.nextEntry p = none → tb = { tag := 0, prompter := 0, rows := [] })
        ∧ ∀ e ∈ nextSet.nextEntry p, (tb.tag = e.tag ∧ tb.prompter = (nextSet.record e.record).prompterId
          ∧ tb.rows.length = (nextSet.record e.record).rows.length) ∧ tb.rows.length = 1
          ∧ ∀ a ∈ tb.rows[0]?, ∀ b ∈ (nextSet.record e.record).rows[0]?, SameCue a b := by decide +kernel
  refine ⟨(h p).1, fun e he => ⟨((h p).2 e he).1.1, ((h p).2 e he).1.2.1, ((h p).2 e he).1.2.2, fun i a ha b hb => ?_⟩⟩
  match i with
  | 0 => exact ((h p).2 e he).2.2 a ha b hb
  | i + 1 =>
    rw [List.getElem?_eq_none (by rw [((h p).2 e he).2.1]; omega)] at ha
    exact nomatch ha

/-- A lit TALLY line of program A on a channel claimed for it. -/
def lit : State :=
  after (fun s => (line1 (.tally 0 0) id (chan1 (config .clip 2 false)
    (fun c => { c with claim := .held 0, onStates := c.onStates.set 0 true }) (running s))).settleLines)
theorem witness_EveryCommandKeepsLampsTrue : OnStatesOk lit.toPart ∧ LinesShown lit.toPart ∧ lit.active = true
    ∧ lit.trunkLoss = .normal ∧ (lit.line 0).fn = .tally 0 0 ∧ (lit.line 0).output = some true := by decide +kernel

end Sys2Proof.Tests
end

section
/-! PROOFS. The reset pin's release and the trunk blocks (R14, R22). -/

namespace Sys2Proof.Machine

/-! ### Release of the reset pin -/

/-- The release of the reset pin answers from every state, active or not. -/
theorem exec_resetPinRelease (straps : Fin 64) (s : State) :
    exec (.resetPinRelease straps) s = .next (s.onPart (fun t => t.releaseReset straps)) := rfl

@[simp] theorem Part.releaseReset_port (s : Part) (straps : Fin 64) :
    (s.releaseReset straps).port = Port.reset straps.val := rfl

@[simp] theorem Part.releaseReset_intake (s : Part) (straps : Fin 64) :
    (s.releaseReset straps).intake = Intake.reset := rfl

@[simp] theorem Part.releaseReset_channel (s : Part) (straps : Fin 64) (c : ChanId) :
    (s.releaseReset straps).channel c = Channel.reset :=
  Bank.at_replicate Channel.reset c

@[simp] theorem Intake.reset_contexts_at (i : Fin 4) : Intake.reset.contexts.at i = none :=
  Bank.at_replicate none i

/-- Settles O2: the rows of the port and the intake are their reset values, and those of the 24 channels (R9, R163) are
read from the reset channel. -/
theorem resetPinReleaseSetsTrunkState : Obligations.ResetPinReleaseSetsTrunkState := by
  intro straps s
  refine ⟨_, exec_resetPinRelease straps s, ?_⟩
  have hport : (s.onPart (fun t => t.releaseReset straps)).port = Port.reset straps.val := by simp
  have hintake : (s.onPart (fun t => t.releaseReset straps)).intake = Intake.reset := by simp
  have hchannel : ∀ c, (s.onPart (fun t => t.releaseReset straps)).channel c = Channel.reset := by simp
  rw [hport, hintake]
  refine ⟨rfl, rfl, rfl, rfl, rfl, fun c => ?_, rfl, fun c => ?_, rfl, rfl, Intake.reset_contexts_at, rfl, rfl, rfl, rfl⟩
  · rw [hchannel c]; rfl
  · rw [hchannel c]; exact ⟨rfl, rfl⟩

end Sys2Proof.Machine
end

section
/-! PROOFS. Labels and day frames (R29, R30, R32, R33). -/

namespace Sys2Proof.Machine

/-! ### Rates that skip no label -/

theorem labelSkipped_of_rateSkip_eq_zero {r : Rate} (hk : rateSkip r = 0) (x : Label) : labelSkipped r x = false := by
  simp [labelSkipped, hk]

theorem labelDay_of_rateSkip_eq_zero {r : Rate} (hk : rateSkip r = 0) (x : Label) :
    labelDay r x = (x.hh * 3600 + x.mm * 60 + x.ss) * rateNominal r + x.ff := by
  simp [labelDay, hk]

theorem dayLabel_of_rateSkip_eq_zero {r : Rate} (hk : rateSkip r = 0) (f : Nat) :
    dayLabel r f = labelOfCount (rateNominal r) f :=
  if_pos hk

/-! ### Drop-frame rates -/

/-- The four steps of R33, with the frames of ten minutes and of a dropped minute computed from `n` and `k` as the model
does, and step 2's test in R33's own direction. -/
theorem dayLabel_of_rateSkip_ne_zero {r : Rate} (hk : rateSkip r ≠ 0) (f : Nat) :
    dayLabel r f =
      let n := rateNominal r
      let k := rateSkip r
      let rest := f % (600 * n - 9 * k)
      labelOfCount n (f + 9 * k * (f / (600 * n - 9 * k))
        + if k ≤ rest then k * ((rest - k) / (60 * n - k)) else 0) := by
  have hguard (a b c : Nat) : (if a < rateSkip r then b else c) = if rateSkip r ≤ a then c else b := by
    simp only [← Nat.not_lt, ite_not]
  simp only [dayLabel, if_neg hk, hguard]

/-! ### The constants of the obligation's two tables -/

theorem rateSkip_rateNominal_of_nonDrop {r : Rate} {n : Nat}
    (h : (r, n) ∈ ([(.r25, 25), (.r30, 30), (.r50, 50), (.r60, 60)] : List (Rate × Nat))) :
    rateSkip r = 0 ∧ rateNominal r = n := by
  simp only [List.mem_cons, List.not_mem_nil, Prod.mk.injEq, or_false] at h
  obtain ⟨rfl, rfl⟩ | ⟨rfl, rfl⟩ | ⟨rfl, rfl⟩ | ⟨rfl, rfl⟩ := h <;> exact ⟨rfl, rfl⟩

/-- The table's frames of ten minutes, frames of a dropped minute and labels skipped in ten minutes (R33) are the numbers
the model computes from `n` and `k`. -/
theorem dropConstants_of_drop {r : Rate} {n k t m j : Nat}
    (h : (r, n, k, t, m, j) ∈ ([(.r30df, 30, 2, 17982, 1798, 18), (.r60df, 60, 4, 35964, 3596, 36)] :
      List (Rate × Nat × Nat × Nat × Nat × Nat))) :
    rateSkip r ≠ 0 ∧ rateNominal r = n ∧ rateSkip r = k
      ∧ 600 * n - 9 * k = t ∧ 60 * n - k = m ∧ 9 * k = j := by
  simp only [List.mem_cons, List.not_mem_nil, Prod.mk.injEq, or_false] at h
  obtain ⟨rfl, rfl, rfl, rfl, rfl, rfl⟩ | ⟨rfl, rfl, rfl, rfl, rfl, rfl⟩ := h <;> decide

/-- Settles O54: the non-drop rates skip no label, and at the drop-frame rates the model's constants are those of R33. -/
theorem labelsFollowTheFormulas : Obligations.LabelsFollowTheFormulas := by
  refine ⟨fun r n hr => ?nonDrop, fun r n k t m j hr => ?drop⟩
  case nonDrop =>
    obtain ⟨hk, rfl⟩ := rateSkip_rateNominal_of_nonDrop hr
    exact ⟨fun _ _ _ _ => ⟨labelSkipped_of_rateSkip_eq_zero hk _, labelDay_of_rateSkip_eq_zero hk _⟩,
      dayLabel_of_rateSkip_eq_zero hk⟩
  case drop =>
    obtain ⟨hk, rfl, rfl, rfl, rfl, rfl⟩ := dropConstants_of_drop hr
    exact ⟨fun _ _ _ _ => rfl, dayLabel_of_rateSkip_ne_zero hk⟩

end Sys2Proof.Machine
end

section
/-! PROOFS. Stories opened and freed, and links removed (R45, R46, R55, R57). -/

namespace Sys2Proof.Machine

/-! ### A command on an idle intake, by what it changes -/

@[simp] theorem sameBlock_refl (b : Block) (s : Part) : sameBlock b s s = true := by
  cases b <;> simp [sameBlock]

/-- A new store is a change of no other block. -/
theorem sameBlock_of_store {b : Block} (h : b ≠ .store) (s : Part) (m : Bank Record 256) :
    sameBlock b s { s with store := m } = true := by
  cases b
  case store => exact absurd rfl h
  all_goals simp [sameBlock]

/-- The answer to a command touches no block but the intake and the lines. -/
theorem sameBlock_answered {b : Block} (hi : b ≠ .intake) (hl : b ≠ .lines) (s : Part) (o : Origin) (code : Nat)
    (r : Part × Reply) : sameBlock b s (answered o code r) = sameBlock b s r.1 := by
  cases b
  case intake => exact absurd rfl hi
  case lines => exact absurd rfl hl
  all_goals rfl

@[simp] theorem answered_record (o : Origin) (code : Nat) (r : Part × Reply) (q : RecId) :
    (answered o code r).record q = r.1.record q := rfl

/-- A command that leaves the intake, the lines and all but the named blocks alone has its answer as its one further
effect (R18, R19). -/
theorem answers_of_sameBlock {changed : List Block} {s : State} {r : Part × Reply} (o : Origin) (code : Nat)
    (hi : r.1.intake = s.intake) (hl : r.1.lines = s.lines)
    (hk : ∀ b, b ∉ changed → sameBlock b s.toPart r.1 = true) :
    Answers changed s (s.onPart (fun _ => answered o code r)) o code r.2 := by
  refine ⟨answered_replied hi o code, answered_lines hl o code, rfl, fun b _ hb => ?_⟩
  simp only [List.mem_cons, not_or] at hb
  obtain ⟨hintake, hlines, hchanged⟩ := hb
  exact (sameBlock_answered hintake hlines s.toPart o code r).trans (hk b hchanged)

/-- What a command row leaves on an idle intake, when its own effect is `u` with a reply. -/
theorem exec_of_command {i : Instr} {o : Origin} {c : Command} {f : Part → Part × Reply} {s : State} {u : Part}
    {reply : Reply} {changed : List Block} (h : Listening s.toPart) (hexec : exec i s = s.command o c f)
    (hf : f s.toPart = (u, reply)) (hi : u.intake = s.intake) (hl : u.lines = s.lines)
    (hk : ∀ b, b ∉ changed → sameBlock b s.toPart u = true) :
    ∃ t, exec i s = .next t ∧ Answers changed s t o c.code reply ∧ ∀ q, t.record q = u.record q := by
  have hnext : exec i s = .next (s.onPart (fun _ => answered o c.code (u, reply))) := by
    rw [hexec, State.command_of_listening h, State.onPart, hf, State.onPart]
  exact ⟨_, hnext, answers_of_sameBlock (r := (u, reply)) o c.code hi hl hk, answered_record o c.code (u, reply)⟩

/-- A command whose effect is a reply alone is refused with that reply. -/
theorem refused_of_command {i : Instr} {o : Origin} {c : Command} {f : Part → Part × Reply} {s : State}
    {reply : Reply} (h : Listening s.toPart) (hexec : exec i s = s.command o c f) (hf : f s.toPart = (s.toPart, reply)) :
    Refused i s o c.code reply :=
  have ⟨t, hnext, hans, _⟩ := exec_of_command h hexec hf rfl rfl (fun b _ => sameBlock_refl b s.toPart)
  ⟨t, hnext, hans⟩

/-- A command that changes nothing of the part but its store answers with its reply and leaves that store's records. -/
theorem exec_of_store_command {i : Instr} {o : Origin} {c : Command} {f : Part → Part × Reply} {s : State} {u : Part}
    {reply : Reply} (h : Listening s.toPart) (hexec : exec i s = s.command o c f) (hf : f s.toPart = (u, reply))
    (hu : u = { s.toPart with store := u.store }) :
    ∃ t, exec i s = .next t ∧ Answers [.store] s t o c.code reply ∧ ∀ q, t.record q = u.record q := by
  have hkeep (b : Block) (hb : b ∉ [Block.store]) : sameBlock b s.toPart u = true := by
    rw [hu]
    exact sameBlock_of_store (by simpa using hb) s.toPart u.store
  exact exec_of_command h hexec hf (by rw [hu]) (by rw [hu]) hkeep

/-! ### The lowest-numbered FREE record (R45) -/

theorem Part.lowestFree_eq_none_iff (s : Part) : s.lowestFree = none ↔ ∀ r, (s.record r).state ≠ .free := by
  simp [Part.lowestFree, allRecords]

theorem Part.lowestFree_eq_some_iff (s : Part) (r : RecId) :
    s.lowestFree = some r ↔ (s.record r).state = .free ∧ ∀ q, q < r → (s.record q).state ≠ .free := by
  simp only [Part.lowestFree, allRecords, List.find?_eq_some_iff_getElem, List.getElem_finRange,
    List.length_finRange, beq_iff_eq, Bool.not_eq_true', beq_eq_false_iff_ne]
  refine and_congr_right fun _ => ⟨?_, fun hlow => ⟨r.val, r.isLt, rfl, fun j hj => hlow ⟨j, by omega⟩ hj⟩⟩
  rintro ⟨i, hi, rfl, hlow⟩ q hq
  exact hlow q.val hq

/-! ### The images OPEN_STORY and FREE_STORY leave (R45, R55) -/

theorem be1_eq (n : Nat) : be1 n = [BitVec.ofNat 8 n] := by
  simp [be1, beBytes]

theorem be2_eq (n : Nat) : be2 n = [BitVec.ofNat 8 (n / 256), BitVec.ofNat 8 n] := by
  simp [be2, beBytes]

@[simp] theorem Record.free_byteAt (a : Nat) : Record.free.byteAt a = 0 := by
  have hhead : Record.free.head = List.replicate 8 0 := by decide
  unfold Record.byteAt
  split
  next ha => rw [hhead, List.getD_eq_getElem?_getD, List.getElem?_replicate, if_pos ha, Option.getD_some]
  next => exact Memory.read_nil a

/-- What a content byte of an image reads after a run of bytes is written. -/
theorem Record.put_byteAt {x : Record} (h : x.content.wf) (b : Nat) (bs : List Byte) {a : Nat} (ha : 8 ≤ a) :
    (x.put b bs).byteAt a = if b ≤ a ∧ a < b + bs.length then bs.getD (a - b) 0 else x.byteAt a := by
  simp only [Record.byteAt, if_neg (Nat.not_lt.2 ha)]
  exact Memory.read_writeAll bs a h

/-- The allotments stand in bytes 28 to 31 of a record just opened, and every other content byte is zero (R45, R194). -/
theorem Record.openedWith_byteAt (slug note cue : Nat) {a : Nat} (ha : 8 ≤ a) :
    (Record.openedWith slug note cue).byteAt a =
      if a = 28 then BitVec.ofNat 8 slug else if a = 29 then BitVec.ofNat 8 note
      else if a = 30 then BitVec.ofNat 8 (cue / 256) else if a = 31 then BitVec.ofNat 8 cue else 0 := by
  have hempty : ({ Record.free with state := .opened } : Record).byteAt a = 0 := if_neg (Nat.not_lt.2 ha)
  have hwf : ({ Record.free with state := .opened } : Record).content.wf := Record.free_wf
  rw [Record.openedWith, Record.put_byteAt hwf _ _ ha, hempty]
  simp only [be1_eq, be2_eq, List.cons_append, List.nil_append, List.length_cons, List.length_nil]
  by_cases hin : 28 ≤ a ∧ a < 32
  · obtain rfl | rfl | rfl | rfl : a = 28 ∨ a = 29 ∨ a = 30 ∨ a = 31 := by omega
    all_goals rfl
  · rw [if_neg (by omega), if_neg (by omega), if_neg (by omega), if_neg (by omega), if_neg (by omega)]

/-! ### OPEN_STORY (R45, R46) -/

/-- The limits R45 sets on the three allotments. -/
abbrev AllotmentsFit (slug note : Byte) (cue : Half) : Prop :=
  slug.toNat ≤ 32 ∧ note.toNat ≤ 64 ∧ slug.toNat + note.toNat + cue.toNat ≤ 544

theorem exec_openStory (o : Origin) (slug note : Byte) (cue : Half) (s : State) :
    exec (.openStory o slug note cue) s = s.command o (.openStory slug note cue) (cmdOpenStory slug note cue) := rfl

theorem exec_openStoryCopyFrom (o : Origin) (slug note : Byte) (cue : Half) (source : Byte) (s : State) :
    exec (.openStoryCopyFrom o slug note cue source) s =
      s.command o (.openStoryCopyFrom slug note cue source) (cmdOpenStoryCopyFrom source) := rfl

theorem cmdOpenStory_of_not_fit {slug note : Byte} {cue : Half} (h : ¬ AllotmentsFit slug note cue) (s : Part) :
    cmdOpenStory slug note cue s = (s, Reply.refusePlain .range []) :=
  if_pos (by omega)

theorem cmdOpenStory_of_none_free {slug note : Byte} {cue : Half} {s : Part} (h : AllotmentsFit slug note cue)
    (hfull : s.lowestFree = none) : cmdOpenStory slug note cue s = (s, Reply.refusePlain .full []) := by
  rw [cmdOpenStory, if_neg (by omega), hfull]

theorem cmdOpenStory_of_lowest {slug note : Byte} {cue : Half} {s : Part} {r : RecId} (h : AllotmentsFit slug note cue)
    (hr : s.lowestFree = some r) :
    cmdOpenStory slug note cue s =
      (s.onRecord r (fun _ => Record.openedWith slug.toNat note.toNat cue.toNat),
        Reply.done [BitVec.ofNat 8 r.val, 0]) := by
  rw [cmdOpenStory, if_neg (by omega), hr]
  simp [be1_eq]

theorem cmdOpenStoryCopyFrom_of_free {source : Byte} {s : Part} (h : (s.record source.toFin).state = .free) :
    cmdOpenStoryCopyFrom source s = (s, Reply.refusePlain .notFound []) := by
  simp only [cmdOpenStoryCopyFrom, recOf, h]

theorem cmdOpenStoryCopyFrom_of_opened {source : Byte} {s : Part} (h : (s.record source.toFin).state = .opened) :
    cmdOpenStoryCopyFrom source s = (s, Reply.refusePlain .busy []) := by
  simp only [cmdOpenStoryCopyFrom, recOf, h]

theorem cmdOpenStoryCopyFrom_of_none_free {source : Byte} {s : Part} (h : (s.record source.toFin).state = .ready)
    (hfull : s.lowestFree = none) : cmdOpenStoryCopyFrom source s = (s, Reply.refusePlain .full []) := by
  simp only [cmdOpenStoryCopyFrom, recOf, h, hfull]

theorem cmdOpenStoryCopyFrom_of_lowest {source : Byte} {s : Part} {r : RecId}
    (h : (s.record source.toFin).state = .ready) (hr : s.lowestFree = some r) :
    cmdOpenStoryCopyFrom source s =
      ((s.onRecord r (fun _ => (s.record source.toFin).copyOf)).onRecord source.toFin (fun x => { x with retire := true }),
        Reply.done [BitVec.ofNat 8 r.val, BitVec.ofNat 8 (s.record source.toFin).version]) := by
  simp only [cmdOpenStoryCopyFrom, recOf, h, hr, be1_eq, List.cons_append, List.nil_append]

/-- Settles O24: one case for each answer of R45 and R46. The record taken for a copy is FREE and the source READY, so
they are two records. -/
theorem openStoryTakesLowestFree : Obligations.OpenStoryTakesLowestFree := by
  intro o slug note source cue s hs fits lowest none_free plain copy src
  have hfull (h : none_free) : s.lowestFree = none := (Part.lowestFree_eq_none_iff _).2 h
  have hlow {r : RecId} (h : lowest r) : s.lowestFree = some r := (Part.lowestFree_eq_some_iff _ r).2 h
  have hplain := exec_openStory o slug note cue s
  have hcopy := exec_openStoryCopyFrom o slug note cue source s
  refine ⟨fun hfit => refused_of_command hs hplain (cmdOpenStory_of_not_fit hfit _),
    fun hfit hnone => refused_of_command hs hplain (cmdOpenStory_of_none_free hfit (hfull hnone)),
    fun r hfit hr => ?opened,
    fun hfree => refused_of_command hs hcopy (cmdOpenStoryCopyFrom_of_free hfree),
    fun hopen => refused_of_command hs hcopy (cmdOpenStoryCopyFrom_of_opened hopen),
    fun hready hnone => refused_of_command hs hcopy (cmdOpenStoryCopyFrom_of_none_free hready (hfull hnone)),
    fun r hready hr => ?copied⟩
  case opened =>
    obtain ⟨t, hexec, hans, hrec⟩ :=
      exec_of_store_command hs hplain (cmdOpenStory_of_lowest hfit (hlow hr)) rfl
    have hnew : t.record r = Record.openedWith slug.toNat note.toNat cue.toNat :=
      (hrec r).trans (Part.onRecord_record_self _ r _)
    refine ⟨t, hexec, hans, fun q hq => (hrec q).trans (Part.onRecord_record_of_ne _ _ hq), by rw [hnew]; rfl,
      fun a ha _ => ?_⟩
    rw [hnew, Record.openedWith_byteAt _ _ _ ha]
    have hslug : (BitVec.ofNat 8 slug.toNat).toNat = slug.toNat := Nat.mod_eq_of_lt slug.isLt
    have hnote : (BitVec.ofNat 8 note.toNat).toNat = note.toNat := Nat.mod_eq_of_lt note.isLt
    have hcueHigh : (BitVec.ofNat 8 (cue.toNat / 256)).toNat = cue.toNat / 256 := Nat.mod_eq_of_lt (by omega)
    have hcueLow : (BitVec.ofNat 8 cue.toNat).toNat = cue.toNat % 256 := BitVec.toNat_ofNat cue.toNat 8
    have hzero : (0 : Byte).toNat = 0 := rfl
    simp only [apply_ite BitVec.toNat, hslug, hnote, hcueHigh, hcueLow, hzero]
  case copied =>
    obtain ⟨t, hexec, hans, hrec⟩ :=
      exec_of_store_command hs hcopy (cmdOpenStoryCopyFrom_of_lowest hready (hlow hr)) rfl
    have hne : source.toFin ≠ r := by
      rintro rfl
      exact absurd (hr.1.symm.trans hready) (by decide)
    refine ⟨t, hexec, hans, fun q hqr hqs => ?_, ?_, ?_⟩
    · rw [hrec, Part.onRecord_record_of_ne _ _ hqs, Part.onRecord_record_of_ne _ _ hqr]
    · rw [hrec, Part.onRecord_record_self, Part.onRecord_record_of_ne _ _ hne]
    · rw [hrec, Part.onRecord_record_of_ne _ _ hne.symm, Part.onRecord_record_self]
      rfl

/-! ### FREE_STORY and the removal of a link (R55, R57) -/

theorem exec_freeStory (o : Origin) (record : Byte) (s : State) :
    exec (.freeStory o record) s = s.command o (.freeStory record) (cmdFreeStory record) := rfl

theorem cmdFreeStory_of_free {record : Byte} {s : Part} (h : (s.record record.toFin).state = .free) :
    cmdFreeStory record s = (s, Reply.refusePlain .notFound []) :=
  if_pos h

theorem cmdFreeStory_of_linked {record : Byte} {s : Part} (h : (s.record record.toFin).state ≠ .free)
    (hlinks : 0 < (s.record record.toFin).links) :
    cmdFreeStory record s = (s, Reply.refusePlain .busy (be1 (s.record record.toFin).links)) :=
  (if_neg h).trans (if_pos hlinks)

theorem cmdFreeStory_of_unlinked {record : Byte} {s : Part} (h : (s.record record.toFin).state ≠ .free)
    (hlinks : (s.record record.toFin).links = 0) :
    cmdFreeStory record s = (s.onRecord record.toFin (fun _ => Record.free), Reply.done []) :=
  (if_neg h).trans (if_neg (Nat.not_lt.2 (Nat.le_of_eq hlinks)))

/-- A retired record's last link takes the record with it. -/
theorem Record.unlinked_of_last {x : Record} (hlinks : x.links = 1) (hretire : x.retire = true) :
    x.unlinked = Record.free :=
  if_pos ⟨by omega, hretire⟩

/-- Any other link that is removed only lowers the count. -/
theorem Record.unlinked_of_not_last {x : Record} (hlinks : 0 < x.links) (h : ¬ (x.links = 1 ∧ x.retire = true)) :
    x.unlinked = { x with links := x.links - 1 } :=
  if_neg fun ⟨hone, hretire⟩ => h ⟨by omega, hretire⟩

@[simp] theorem Part.removeLink_record_self (s : Part) (r : RecId) :
    (s.removeLink r).record r = (s.record r).unlinked :=
  Part.onRecord_record_self s r Record.unlinked

theorem Part.removeLink_record_of_ne (s : Part) {r q : RecId} (h : q ≠ r) : (s.removeLink r).record q = s.record q :=
  Part.onRecord_record_of_ne s Record.unlinked h

/-- Settles O27: the three answers of FREE_STORY, then a link removed that is, or is not, the last of a retired record. -/
theorem storiesAreFreedWhenUnlinked : Obligations.StoriesAreFreedWhenUnlinked := by
  refine ⟨fun o record s hs => ?_, fun r s hlinks => ?_⟩
  · have hexecs := exec_freeStory o record s
    refine ⟨fun hfree => refused_of_command hs hexecs (cmdFreeStory_of_free hfree),
      fun hfree hlinks => refused_of_command hs hexecs (cmdFreeStory_of_linked hfree hlinks), fun hfree hlinks => ?_⟩
    obtain ⟨t, hexec, hans, hrec⟩ :=
      exec_of_store_command hs hexecs (cmdFreeStory_of_unlinked hfree hlinks) rfl
    have hfreed : t.record record.toFin = Record.free := (hrec _).trans (Part.onRecord_record_self _ _ _)
    refine ⟨t, hexec, hans, fun q hq => (hrec q).trans (Part.onRecord_record_of_ne _ _ hq), ?_, fun a _ => ?_⟩
    · rw [hfreed]; rfl
    · rw [hfreed, Record.free_byteAt]
  · refine ⟨fun q hq => s.removeLink_record_of_ne hq, fun hlast hretire a _ => ?_, fun hnot => ?_⟩
    · rw [Part.removeLink_record_self, Record.unlinked_of_last hlast hretire, Record.free_byteAt]
    · rw [Part.removeLink_record_self, Record.unlinked_of_not_last hlinks hnot]

end Sys2Proof.Machine
end
